-- ==== Sys2Proof/Word.lean ====
section
/-!
DEFINITION. Words, numbers and names that every part of the model shares: widths of the fields, the
numbering of lines, senders, profiles, conventions and trace slots (00_scope.md, Units and conventions),
the two links and the level of a receive wire.
-/

namespace Sys2Proof

/-- One character's data, one scan byte. -/
abbrev Byte := BitVec 8

/-- A stamp, a challenge, a phase or a highway sample (two's complement). -/
abbrev Half := BitVec 16

/-- Line time, a count of milliseconds modulo 4,294,967,296 (R178). -/
abbrev LineTime := BitVec 32

/-- Lines are numbered 0 to 47. -/
abbrev LineId := Fin 48

/-- Senders are numbered 0 to 7. -/
abbrev SenderId := Fin 8

/-- Profiles are numbered 0 to 7. -/
abbrev ProfileId := Fin 8

/-- Conventions are numbered 0 to 3. -/
abbrev ConventionId := Fin 4

/-- Trace slots are numbered 0 to 1. -/
abbrev SlotId := Fin 2

/-- The 16 tone symbols, coded 0 to 15 (00_scope.md, The symbol set). -/
abbrev Symbol := Fin 16

/-- The two control links (R155). -/
inductive LinkId where
  | a
  | b
  deriving DecidableEq, Repr

/-- The other link. -/
def LinkId.other : LinkId → LinkId
  | .a => .b
  | .b => .a

/-- The level of a link's receive wire (R155). -/
inductive WireLevel where
  | marking
  | spacing
  deriving DecidableEq, Repr

/-- All lines, in ascending order. -/
def allLines : List LineId := List.finRange 48

/-- All senders, in ascending order. -/
def allSenders : List SenderId := List.finRange 8

/-- The stamp of a line time: line time modulo 65536 (R178). -/
def stampOf (t : LineTime) : Half := t.setWidth 16

end Sys2Proof
end

