-- ==== Sys2Proof/Syntax.lean ====
section
/-!
DEFINITION. The commands and events of the block: one constructor for each of the 50 rows of
spec/opcode_table.json. The table gives the rows no fields; the operands are what the rule of the row
needs (assumption log 2). A plane's command carries its body characters as received (10.2), so that an
index out of range is a form of the command and not an ill-formed term.
-/

namespace Sys2Proof

/-- The profile record of a WRITE PROFILE, field by field as received (10.5). -/
structure RawProfile where
  pNom : Half
  nominal : Byte
  seizeTime : Half
  flashMin : Half
  clearTime : Half
  firstDigitTime : Byte
  partialTime : Byte
  settleTime : Byte
  flapLimit : Byte
  convention : Byte
  seizeGate : Byte
  tOn : Half
  tOff : Half
  commit : Half
  aL : Half
  aH : Half
  deriving DecidableEq, Repr

/-- The globals record of a WRITE GLOBALS as received (10.5). -/
structure RawGlobals where
  auditPeriod : Half
  runLimit : Byte
  lineCap : Byte
  deriving DecidableEq, Repr

/-- The rows of spec/opcode_table.json. -/
inductive Instr where
  | oscillatorMillisecond
  | scanFrame (bytes : List Byte)
  | classReview
  | runConfirmation (line : LineId)
  | gap (line : LineId)
  | clear (line : LineId)
  | restExpiry (line : LineId)
  | seizeExpiry (line : LineId)
  | firstDigitExpiry (line : LineId)
  | partialExpiry (line : LineId)
  | settleExpiry (line : LineId)
  | highwayFrame (slots : List Half)
  | shortFrame
  | onPhaseEnd (sender : SenderId)
  | toneOffEnd (sender : SenderId)
  | frameWatchdogExpiry
  | lockingTimeout
  | resetInput
  | powerOn
  | supplyLow
  | partResetEnd (rxdA rxdB : WireLevel)
  | audit (link : LinkId) (challenge : Half)
  | enable (link : LinkId) (line profile : Byte)
  | disable (link : LinkId) (line : Byte)
  | setProfile (link : LinkId) (line profile : Byte)
  | openGate (link : LinkId) (line : Byte)
  | shutGate (link : LinkId) (line : Byte)
  | converse (link : LinkId) (line : Byte)
  | resume (link : LinkId) (line : Byte)
  | park (link : LinkId) (line : Byte)
  | restore (link : LinkId) (line : Byte)
  | withdraw (link : LinkId) (line : Byte)
  | inject (link : LinkId) (line : Byte) (symbols : List Byte)
  | relearn (link : LinkId) (line : Byte)
  | traceOn (link : LinkId) (line : Byte)
  | traceOff (link : LinkId) (line : Byte)
  | queryLine (link : LinkId) (line : Byte)
  | writeProfile (link : LinkId) (profile : Byte) (record : RawProfile)
  | writeConvention (link : LinkId) (convention : Byte) (entries : Vector Byte 10)
  | writeGlobals (link : LinkId) (record : RawGlobals)
  | readSettings (link : LinkId) (kind index : Byte)
  | receiveError (link : LinkId)
  | gapTimerExpiry (link : LinkId)
  | shortBreak (link : LinkId)
  | longBreak (link : LinkId)
  | auditTimerExpiry (link : LinkId)
  | reportTransmissionStart (link : LinkId) (ready : Bool)
  | reportTransmissionComplete (link : LinkId)
  /-- The levels of the 11 positions, in the order sampled: start bit, data and mark flag, and then the stop position
  (R155); and the ticks that fell since the leading edge of the start bit (R156): 44 microseconds hold at most two, a
  loss of the frame clock and an oscillator millisecond. -/
  | characterTaken (link : LinkId) (positions : Vector WireLevel 10) (stop : WireLevel) (edgeTicks : Fin 3)
  | returnToMarking (link : LinkId)
  deriving DecidableEq, Repr

end Sys2Proof
end

