-- ==== Sys2Proof/WellFormed.lean ====
section
/-!
DEFINITION. Which terms of `Instr` stand for a row that can arrive whole: a scan frame has 49 bytes
(R2), an incoming highway frame has 64 slots (R125), and an INJECT carries at most 39 symbol
characters, since its body length L is at most 40 and one character of it names the line (R157, 10.2).
Every other operand is of a type that holds exactly the values that can arrive.
`exec` has a meaning for ill-formed terms too (assumption log 22).
-/

namespace Sys2Proof

/-- The size checks on the operands of a row. -/
def Instr.wellFormed : Instr → Bool
  | .oscillatorMillisecond => true
  | .scanFrame bytes => bytes.length == 49
  | .classReview => true
  | .runConfirmation _ => true
  | .gap _ => true
  | .clear _ => true
  | .restExpiry _ => true
  | .seizeExpiry _ => true
  | .firstDigitExpiry _ => true
  | .partialExpiry _ => true
  | .settleExpiry _ => true
  | .highwayFrame slots => slots.length == 64
  | .shortFrame => true
  | .onPhaseEnd _ => true
  | .toneOffEnd _ => true
  | .frameWatchdogExpiry => true
  | .lockingTimeout => true
  | .resetInput => true
  | .powerOn => true
  | .supplyLow => true
  | .partResetEnd _ _ => true
  | .audit _ _ => true
  | .enable _ _ _ => true
  | .disable _ _ => true
  | .setProfile _ _ _ => true
  | .openGate _ _ => true
  | .shutGate _ _ => true
  | .converse _ _ => true
  | .resume _ _ => true
  | .park _ _ => true
  | .restore _ _ => true
  | .withdraw _ _ => true
  | .inject _ _ symbols => decide (symbols.length ≤ 39)
  | .relearn _ _ => true
  | .traceOn _ _ => true
  | .traceOff _ _ => true
  | .queryLine _ _ => true
  | .writeProfile _ _ _ => true
  | .writeConvention _ _ _ => true
  | .writeGlobals _ _ => true
  | .readSettings _ _ _ => true
  | .receiveError _ => true
  | .gapTimerExpiry _ => true
  | .shortBreak _ => true
  | .longBreak _ => true
  | .auditTimerExpiry _ => true
  | .reportTransmissionStart _ _ => true
  | .reportTransmissionComplete _ => true
  | .characterTaken _ _ _ _ => true
  | .returnToMarking _ => true

end Sys2Proof
end

