-- ==== Sys2Proof/Decode.lean ====
section
/-!
DEFINITION. The command that a word spells by the bits of spec/opcode_table.json. No row of the table
gives any bits (every row's "fields" list is empty and no row has "fixed"), so no word spells a command
(assumption log 2). How the characters of a control link spell a command is not the table's affair; it
is `parseCommand` of Machine/Layouts.lean.
-/

namespace Sys2Proof

/-- The command a table word spells: none, for the table gives no row any bits. -/
def decodeTableWord (_nbits _w : Nat) : Option Instr := none

end Sys2Proof
end

