-- ==== Sys2Proof/Machine/State.lean ====
section
/-!
DEFINITION. Everything the spec gives the part, as plain data, and its value right after a part reset.
INVENTORY.md lists each field with the rule that names it. Fields the model adds say so in their
docstrings.
-/

namespace Sys2Proof.Machine

/-! ### Codes and names -/

/-- A debounced loop state and the polarity of a run (R7, R20). -/
inductive Loop where
  | open
  | closed
  deriving DecidableEq, Repr, Inhabited

/-- The class of a line (R15). -/
inductive LineClass where
  | clean
  | damp
  | weak
  | fault
  deriving DecidableEq, Repr, Inhabited

/-- The seven line states (R48). -/
inductive LineState where
  | disabled
  | idle
  | seizing
  | active
  | converse
  | parked
  | quarantine
  deriving DecidableEq, Repr, Inhabited

/-- The gate (R48, R60). -/
inductive Gate where
  | shut
  | open
  deriving DecidableEq, Repr, Inhabited

/-- The kinds of supervision timer (R49). -/
inductive TimerKind where
  | rest
  | seize
  | firstDigit
  | partialDial
  | settle
  deriving DecidableEq, Repr

/-- Where a cell's digit came from (R75). -/
inductive Origin where
  | dialled
  | injected
  deriving DecidableEq, Repr

/-- The states of a sender (R93). -/
inductive SenderState where
  | free
  | toneOn
  | toneOff
  deriving DecidableEq, Repr, Inhabited

/-- The scan states (R4). -/
inductive ScanState where
  | running
  | lost
  deriving DecidableEq, Repr, Inhabited

/-- The states of the time base (R182 to R184). -/
inductive TimeBaseState where
  | locking
  | locked
  | fallback
  deriving DecidableEq, Repr, Inhabited

/-- The reset causes (R188). -/
inductive ResetCause where
  | powerOn
  | lowSupply
  | external
  deriving DecidableEq, Repr, Inhabited

/-- The supervision states of a link (R168). -/
inductive LinkState where
  | alive
  | suspect
  | failed
  deriving DecidableEq, Repr, Inhabited

/-- Causes of a LINE STATE report (R50, R88). -/
inductive LineCause where
  | enable | disable | seize | clear | firstDigit | partialDial | park | converse | resume | restored
  | flap | fault | settled | openGate | shutGate | withdraw
  deriving DecidableEq, Repr

/-- Reasons of a DIGIT ERROR report (R40). -/
inductive DigitErrorReason where
  | mutilated | overcount | unmapped | broken | scan
  deriving DecidableEq, Repr

/-- Reasons of a DIGIT LOST report (R79). -/
inductive LossReason where
  | line | pool
  deriving DecidableEq, Repr

/-- The manner of a commit (R102). -/
inductive Manner where
  | endOfTone | atAbort
  deriving DecidableEq, Repr

/-- Verdicts of a PULSE TRACE report (R46). -/
inductive Verdict where
  | pulse | invalid | flash | absorbed | make | gap | clear
  deriving DecidableEq, Repr

/-- Reasons of a REJECT (R162); the first five are the receive errors (R160). -/
inductive RejectReason where
  | framing | check | length | unknown | timeout | range | state | busy | noRoom
  deriving DecidableEq, Repr

/-- Causes of a PLANE STATUS report (R176). -/
inductive PlaneCause where
  | auditExpiry | audit | receiveError | restored | restart
  deriving DecidableEq, Repr

/-- Reasons of a LINK START report (R175). -/
inductive StartReason where
  | partReset | restart | restored
  deriving DecidableEq, Repr

/-! ### The line record -/

/-- The slicer context of a line (R7). -/
structure Slicer where
  lc : Nat
  lo : Nat
  debounced : Loop
  candidate : Nat
  cls : LineClass
  faultReviews : Nat
  /-- The line was ENABLEd and its first sample has not come yet (R12, R14). -/
  awaitingFirst : Bool
  deriving DecidableEq, Repr, Inhabited

/-- A run of the debounced loop state (R20, R21). The duration of a run in progress is its accumulated
duration at the latest sample; that of an ended run is its end time less its start time. -/
structure Run where
  polarity : Loop
  start : LineTime
  duration : Nat
  confirmed : Bool
  deriving DecidableEq, Repr, Inhabited

/-- A digit in progress with its snapshot (R20, R32). -/
structure Digit where
  count : Nat
  mutilated : Bool
  pairSum : Nat
  pairCount : Nat
  flashMin : Nat
  clearTime : Nat
  convention : ConventionId
  deriving DecidableEq, Repr

/-- Which tests of the latest sample are still to be made (R42). The model's own: the tests belong to
the sample, and the table gives them rows of their own (assumption log 4). -/
inductive SampleTests where
  /-- All made. -/
  | made
  /-- The confirmation test, then the gap or the clear test. -/
  | confirmation
  /-- The gap or the clear test. -/
  | limit
  deriving DecidableEq, Repr, Inhabited

/-- The decoder context of a line (R20). -/
structure Decoder where
  pEst : Nat
  run : Run
  ended : Option Run
  pendingBreak : Option Nat
  digit : Option Digit
  tests : SampleTests
  deriving DecidableEq, Repr, Inhabited

/-- A supervision timer (R48). -/
structure Timer where
  kind : TimerKind
  remaining : Nat
  deriving DecidableEq, Repr

/-- A digit cell in a queue (R75); `sending` is its state, QUEUED or SENDING. -/
structure Cell where
  symbol : Symbol
  origin : Origin
  pulseCount : Option Nat
  mean : Option Nat
  index : Nat
  stamp : Half
  sending : Bool
  deriving DecidableEq, Repr

/-- The line record (R48). The queue is the ordered list of its cells, oldest first: its head cell, tail
cell and length are read off the list. Grant-queue membership is read off the grant queue
(assumption log 26). -/
structure Line where
  slicer : Slicer
  decoder : Decoder
  state : LineState
  gate : Gate
  profile : ProfileId
  digitIndex : Nat
  pulseDialled : Bool
  callStart : Option LineTime
  timer : Option Timer
  flaps : Nat
  queue : List Cell
  sender : Option SenderId
  runCount : Nat
  trace : Option SlotId
  deriving DecidableEq, Repr, Inhabited

/-! ### Senders -/

/-- The tone values captured at the start of a burst (R100). -/
structure Captured where
  tOn : Nat
  tOff : Nat
  commit : Nat
  aL : Nat
  aH : Nat
  deriving DecidableEq, Repr

/-- A sender record (R93). -/
structure Sender where
  state : SenderState
  line : Option LineId
  symbol : Option Symbol
  elapsed : Nat
  captured : Option Captured
  phases : Option (Half × Half)
  deriving DecidableEq, Repr, Inhabited

/-! ### Settings -/

/-- A profile record (R136). -/
structure Profile where
  pNom : Nat
  nominal : Nat
  seizeTime : Nat
  flashMin : Nat
  clearTime : Nat
  firstDigitTime : Nat
  partialTime : Nat
  settleTime : Nat
  flapLimit : Nat
  convention : ConventionId
  seizeGate : Gate
  tOn : Nat
  tOff : Nat
  commit : Nat
  aL : Nat
  aH : Nat
  deriving DecidableEq, Repr, Inhabited

/-- A convention record: entry n stands at place n - 1; none is NONE (R138). -/
abbrev Convention := Vector (Option Symbol) 10

/-- The globals record (R139). -/
structure Globals where
  auditPeriod : Nat
  runLimit : Nat
  lineCap : Nat
  deriving DecidableEq, Repr, Inhabited

/-- A settings record as a reply or a SETTINGS WRITTEN report carries it (R140 to R144). -/
inductive Settings where
  | profile (index : ProfileId) (record : Profile)
  | convention (index : ConventionId) (record : Convention)
  | globals (record : Globals)
  deriving DecidableEq, Repr

/-! ### Reports and links -/

/-- What a report says after its stamp (10.3). -/
inductive ReportBody where
  | linkStart (reason : StartReason) (cause : ResetCause) (challenge : Half) (timeBase : TimeBaseState)
      (scan : ScanState)
  | auditReply (challenge : Half) (accepted : Bool)
  | ack (kind : Byte) (index : Option Byte) (detail : Half)
  | reject (reason : RejectReason) (kind : Byte) (first : Option Byte) (length : Byte) (free room : Nat)
  | lineState (line : LineId) (new previous : LineState) (gate : Gate) (cause : LineCause)
      (link : Option LinkId) (flushed : Nat)
  | flash (line : LineId) (duration : Nat) (state : LineState)
  | digit (line : LineId) (symbol : Symbol) (origin : Origin) (pulseCount mean : Option Nat)
      (convention : Option ConventionId) (index : Nat) (link : Option LinkId)
  | digitError (line : LineId) (reason : DigitErrorReason) (count : Nat) (convention : ConventionId)
  | digitLost (line : LineId) (reason : LossReason) (symbol : Symbol) (index length free : Nat)
  | digitSent (line : LineId) (sender : SenderId) (manner : Manner) (cell : Cell)
  | classChange (line : LineId) (previous new : LineClass) (lc lo faultReviews : Nat)
  | pulseTrace (line : LineId) (polarity : Loop) (duration : Nat) (verdict : Verdict)
  | lineReply (line : LineId) (record : Line) (inGrantQueue : Bool)
  | profileReply (settings : Settings)
  | planeStatus (link : LinkId) (new previous : LinkState) (cause : PlaneCause)
  | clock (new previous : TimeBaseState) (aborted waiting : Nat)
  | scan (state : ScanState)
  | settingsWritten (settings : Settings) (writer : LinkId)
  | lineProfileWritten (line : LineId) (previous new : ProfileId) (writer : LinkId)
  | lost (count : Nat)
  deriving DecidableEq, Repr

/-- A report: its stamp and what it says. -/
structure Report where
  stamp : Half
  body : ReportBody
  deriving DecidableEq, Repr

/-- A character on a wire: data and mark flag (R155). -/
structure WireChar where
  data : Byte
  marked : Bool
  deriving DecidableEq, Repr

/-- The message assembler (R158). In COLLECT: the kind character's value, the unmarked characters taken
so far (the length first), and the ticks counted by the gap timer (R159). -/
inductive Assembler where
  | wait
  | collect (kind : Byte) (chars : List Byte) (gapTicks : Nat)
  | skip
  deriving DecidableEq, Repr, Inhabited

/-- The receiver of a link: listening for characters, measuring a break (with the ticks it has lasted),
or taking nothing until the wire returns to marking (R155, R156). -/
inductive Receiver where
  | listening
  | breaking (ticks : Nat)
  | deaf
  deriving DecidableEq, Repr, Inhabited

/-- What a REJECT of a receive error carries (R162). -/
structure ErrorInfo where
  reason : RejectReason
  kind : Byte
  first : Option Byte
  length : Byte
  deriving DecidableEq, Repr

/-- A judged message that has not been taken yet: a receive error, or a well-formed command (R160). The
model's own (assumption log 6). -/
inductive Arrival where
  | error (info : ErrorInfo)
  | command (c : Instr)
  deriving DecidableEq, Repr

/-- A control link (chapter 08). -/
structure Link where
  state : LinkState
  challenge : Half
  auditTimer : Option Nat
  queue : List Report
  lost : Nat
  /-- The levels that the report under transmission puts on the transmit wire, position after position, 11 to
  a character; none when the transmitter is idle and the wire rests at marking (R155, R167). -/
  sending : Option (List WireLevel)
  assembler : Assembler
  receiver : Receiver
  waiting : Option Arrival
  deriving DecidableEq, Repr, Inhabited

/-! ### Scan port and time base -/

/-- The scan port controller (R1 to R4). -/
structure Scan where
  state : ScanState
  misses : Nat
  held : Vector Byte 48
  /-- The line time of the strobe that opened the scan period; none before the first strobe. -/
  period : Option LineTime
  /-- The bytes received of the period's frame. -/
  received : List Byte
  deriving DecidableEq, Repr, Inhabited

/-- The time base (chapter 09). -/
structure TimeBase where
  state : TimeBaseState
  lineTime : LineTime
  divider : Nat
  runCount : Nat
  /-- The frame watchdog: oscillator marks since it was started, due from the first; none after an expiry (R180). -/
  watchdog : Option Nat
  /-- The class review of this tick is still to be taken (R14). The model's own. -/
  reviewDue : Bool
  /-- The LOCKING timeout of the tick of line time 250 is still to be taken (R183). The model's own. -/
  lockingDue : Bool
  resetCause : ResetCause
  deriving DecidableEq, Repr, Inhabited

/-- Every block of the part. -/
structure Part where
  timeBase : TimeBase
  scan : Scan
  lines : Vector Line 48
  traceSlots : Vector (Option LineId) 2
  free : Nat
  grantQueue : List LineId
  senders : Vector Sender 8
  profiles : Vector Profile 8
  conventions : Vector Convention 4
  globals : Globals
  linkA : Link
  linkB : Link
  deriving DecidableEq, Repr, Inhabited

/-- Which causes hold the part in reset (R187). -/
structure Hold where
  supply : Bool
  input : Bool
  deriving DecidableEq, Repr

/-- The state of the machine: the queue of waiting commands, the reset hold, the outgoing frame, the
model's counter of free values, and the part. -/
structure State where
  /-- The commands that wait, first in first out. -/
  pending : List Instr
  hold : Hold
  /-- The outgoing frame that is sent during the frame period that follows the latest frame taken (R126). -/
  outgoing : Option (List Half)
  /-- How many free values have been drawn. The model's own (assumption log 16). -/
  draws : Nat
  part : Part
  deriving DecidableEq, Repr

/-- Reasons a step could stop with a fault. There is none: no rule of the spec stops the part. -/
inductive Fault where
  deriving DecidableEq, Repr

/-- Reasons a step could refuse. -/
inductive Refusal where
  /-- Raised by an arm of `exec` for a row with no meaning yet; no arm raises it. Safe. -/
  | notModelled (mnemonic : String)
  deriving DecidableEq, Repr

/-! ### The part right after a part reset (R189) -/

/-- The slicer context at part reset (R7). -/
def Slicer.atReset : Slicer := ⟨640, 0, .open, 0, .clean, 0, false⟩

/-- The decoder context at part reset (R20). -/
def Decoder.atReset : Decoder := ⟨1600, ⟨.open, 0, 0, true⟩, none, none, none, .made⟩

/-- The line record at part reset (R48). -/
def Line.atReset : Line :=
  { slicer := Slicer.atReset, decoder := Decoder.atReset, state := .disabled, gate := .shut, profile := 0
    digitIndex := 0, pulseDialled := false, callStart := none, timer := none, flaps := 0, queue := []
    sender := none, runCount := 0, trace := none }

/-- A FREE sender's record (R93). -/
def Sender.freed : Sender := ⟨.free, none, none, 0, none, none⟩

/-- The default profile record (R136). -/
def Profile.default : Profile :=
  { pNom := 100, nominal := 40, seizeTime := 60, flashMin := 200, clearTime := 600, firstDigitTime := 15
    partialTime := 20, settleTime := 10, flapLimit := 5, convention := 0, seizeGate := .shut, tOn := 70
    tOff := 70, commit := 40, aL := 4000, aH := 5000 }

/-- The part-reset convention records (R138). -/
def Convention.defaults : Vector Convention 4 :=
  #v[ #v[some 1, some 2, some 3, some 4, some 5, some 6, some 7, some 8, some 9, some 0]
    , #v[some 0, some 1, some 2, some 3, some 4, some 5, some 6, some 7, some 8, some 9]
    , #v[some 9, some 8, some 7, some 6, some 5, some 4, some 3, some 2, some 1, some 0]
    , #v[some 1, some 2, some 3, some 4, some 5, some 6, some 7, some 8, some 9, some 0] ]

/-- The default globals record (R139). -/
def Globals.default : Globals := ⟨2000, 4, 32⟩

/-- A receiver at the end of a part reset: a wire found at spacing is treated as at the end of a long
break (R156). -/
def Receiver.atReset : WireLevel → Receiver
  | .marking => .listening
  | .spacing => .deaf

/-- A link at the end of a part reset, with its LINK START queued (R189). -/
def Link.atReset (cause : ResetCause) (rxd : WireLevel) : Link :=
  { state := .alive, challenge := 0, auditTimer := some 2000
    queue := [⟨0, .linkStart .partReset cause 0 .locking .running⟩]
    lost := 0, sending := none, assembler := .wait, receiver := Receiver.atReset rxd, waiting := none }

/-- The time base at the end of a part reset (R189). -/
def TimeBase.atReset (cause : ResetCause) : TimeBase :=
  { state := .locking, lineTime := 0, divider := 0, runCount := 0, watchdog := some 0, reviewDue := false
    lockingDue := false, resetCause := cause }

/-- The scan port controller at the end of a part reset (R2, R189). -/
def Scan.atReset : Scan := ⟨.running, 0, Vector.replicate 48 0, none, []⟩

/-- Every block at the end of a part reset (R189). -/
def Part.atReset (cause : ResetCause) (rxdA rxdB : WireLevel) : Part :=
  { timeBase := TimeBase.atReset cause
    scan := Scan.atReset
    lines := Vector.replicate 48 Line.atReset
    traceSlots := Vector.replicate 2 none
    free := 256
    grantQueue := []
    senders := Vector.replicate 8 Sender.freed
    profiles := Vector.replicate 8 Profile.default
    conventions := Convention.defaults
    globals := Globals.default
    linkA := Link.atReset cause rxdA
    linkB := Link.atReset cause rxdB }

/-- The machine right after the part reset of a power-on, both receive wires at marking and no command
waiting (assumption log 15). -/
def State.reset : State :=
  { pending := [], hold := ⟨false, false⟩, outgoing := none, draws := 0
    part := Part.atReset .powerOn .marking .marking }

end Sys2Proof.Machine
end

