-- ==== Sys2Proof/Config.lean ====
section
/-!
DEFINITION. What the spec leaves open as a value: the free value of the model. Nothing can evaluate
it and no proof can see what it is.
-/

namespace Sys2Proof

/-- The contents of the blocks after the supply fell below the retention level, at the n-th such fall:
the part then "keeps none of its state" (R188), and the spec says nothing else (assumption log 16). -/
opaque Config.lostPart : Nat → Machine.Part

end Sys2Proof
end

