-- ==== Sys2Proof/Machine/Operands.lean ====
section
/-!
DEFINITION. How the characters of a command name things: line, profile and convention indexes with their
index checks (R161), symbol codes (R90, R141), gate codes (R137) and two-character numbers (R190).
-/

namespace Sys2Proof.Machine

/-- The line an index character names: none above 47 (R161). -/
def lineOf (b : Byte) : Option LineId :=
  if h : b.toNat < 48 then some ⟨b.toNat, h⟩ else none

/-- The profile an index character names: none above 7 (R161). -/
def profileOf (b : Byte) : Option ProfileId :=
  if h : b.toNat < 8 then some ⟨b.toNat, h⟩ else none

/-- The convention an index character names: none above 3 (R161). -/
def conventionOf (b : Byte) : Option ConventionId :=
  if h : b.toNat < 4 then some ⟨b.toNat, h⟩ else none

/-- The symbol of a code: none above 15 (R90). -/
def symbolOf (b : Byte) : Option Symbol :=
  if h : b.toNat < 16 then some ⟨b.toNat, h⟩ else none

/-- The symbols of a list of codes: none if any code is above 15 (R90). -/
def symbolsOf : List Byte → Option (List Symbol)
  | [] => some []
  | b :: bs =>
    match symbolOf b, symbolsOf bs with
    | some x, some xs => some (x :: xs)
    | _, _ => none

/-- A convention entry code: a symbol, or NONE for FFh and for every unknown code (R141). -/
def entryOf (b : Byte) : Option Symbol := symbolOf b

/-- A convention entry code that is neither a symbol nor NONE (R141). -/
def entryUnknown (b : Byte) : Bool := decide (16 ≤ b.toNat) && decide (b ≠ 0xFF)

/-- A seize_gate code: 1 is OPEN, 0 and every code that names neither value is SHUT (R137). -/
def gateOf (b : Byte) : Gate := if b = 1 then .open else .shut

/-- A field of two characters, low-order character first (R190). -/
def twoChars (lo hi : Byte) : Half := hi ++ lo

/-- The low-order character of a number (R190). -/
def lowChar (n : Nat) : Byte := BitVec.ofNat 8 n

/-- The second character of a number of two characters (R190). -/
def highChar (n : Nat) : Byte := BitVec.ofNat 8 (n / 256)

/-- A number as two characters, low-order character first (R190). -/
def chars2 (n : Nat) : List Byte := [lowChar n, highChar n]

/-- The characters of a Half, low-order character first (R190). -/
def chars2H (h : Half) : List Byte := chars2 h.toNat

end Sys2Proof.Machine
end

