-- ==== Sys2Proof/Machine/Layouts.lean ====
section
/-!
DEFINITION. Message and record layouts (chapter 10): the codes of 10.4, the body of every report (10.3,
10.5, 10.6), the envelope with its check character (R157), and the commands that bodies spell (10.2).
-/

namespace Sys2Proof.Machine

/-! ### Codes (10.4) -/

def LineState.code : LineState → Byte
  | .disabled => 0 | .idle => 1 | .seizing => 2 | .active => 3 | .converse => 4 | .parked => 5
  | .quarantine => 6

def LineClass.code : LineClass → Byte
  | .clean => 0 | .damp => 1 | .weak => 2 | .fault => 3

def Loop.code : Loop → Byte
  | .open => 0 | .closed => 1

def Gate.code : Gate → Byte
  | .shut => 0 | .open => 1

/-- The code of a link or writer link: none 0, A 1, B 2. -/
def linkCode : Option LinkId → Byte
  | none => 0 | some .a => 1 | some .b => 2

def LineCause.code : LineCause → Byte
  | .enable => 1 | .disable => 2 | .seize => 3 | .clear => 4 | .firstDigit => 5 | .partialDial => 6
  | .park => 7 | .converse => 8 | .resume => 9 | .restored => 10 | .flap => 11 | .fault => 12
  | .settled => 13 | .openGate => 14 | .shutGate => 15 | .withdraw => 16

/-- The code of a timer kind; 0 for none. -/
def timerCode : Option TimerKind → Nat
  | none => 0 | some .rest => 1 | some .seize => 2 | some .firstDigit => 3 | some .partialDial => 4
  | some .settle => 5

def DigitErrorReason.code : DigitErrorReason → Byte
  | .mutilated => 1 | .overcount => 2 | .unmapped => 3 | .broken => 4 | .scan => 5

def LossReason.code : LossReason → Byte
  | .line => 1 | .pool => 2

def Origin.code : Origin → Byte
  | .dialled => 0 | .injected => 1

def Manner.code : Manner → Byte
  | .endOfTone => 0 | .atAbort => 1

def Verdict.code : Verdict → Byte
  | .pulse => 1 | .invalid => 2 | .flash => 3 | .absorbed => 4 | .make => 5 | .gap => 6 | .clear => 7

def RejectReason.code : RejectReason → Byte
  | .framing => 1 | .check => 2 | .length => 3 | .unknown => 4 | .timeout => 5 | .range => 6 | .state => 7
  | .busy => 8 | .noRoom => 9

def LinkState.code : LinkState → Byte
  | .alive => 0 | .suspect => 1 | .failed => 2

def PlaneCause.code : PlaneCause → Byte
  | .auditExpiry => 1 | .audit => 2 | .receiveError => 3 | .restored => 4 | .restart => 5

def StartReason.code : StartReason → Byte
  | .partReset => 1 | .restart => 2 | .restored => 3

def ResetCause.code : ResetCause → Byte
  | .powerOn => 1 | .lowSupply => 2 | .external => 3

def TimeBaseState.code : TimeBaseState → Byte
  | .locking => 0 | .locked => 1 | .fallback => 2

def ScanState.code : ScanState → Byte
  | .running => 0 | .lost => 1

/-- A symbol's code. -/
def symbolCode (x : Symbol) : Byte := lowChar x.val

/-- A convention entry's code: NONE is FFh. -/
def entryCode : Option Symbol → Byte
  | none => 0xFF
  | some x => symbolCode x

/-- A truth value as one bit of a mask. -/
def bit (b : Bool) (place : Nat) : Nat := if b then 2 ^ place else 0

/-! ### Records (10.5, 10.6) -/

/-- The 25 characters of a profile record. -/
def Profile.chars (r : Profile) : List Byte :=
  chars2 r.pNom ++ [lowChar r.nominal] ++ chars2 r.seizeTime ++ chars2 r.flashMin ++ chars2 r.clearTime
    ++ [lowChar r.firstDigitTime, lowChar r.partialTime, lowChar r.settleTime, lowChar r.flapLimit
      , lowChar r.convention.val, r.seizeGate.code]
    ++ chars2 r.tOn ++ chars2 r.tOff ++ chars2 r.commit ++ chars2 r.aL ++ chars2 r.aH

/-- The ten entry codes of a convention record. -/
def conventionChars (r : Convention) : List Byte := r.toList.map entryCode

/-- The four characters of the globals record. -/
def Globals.chars (g : Globals) : List Byte :=
  chars2 g.auditPeriod ++ [lowChar g.runLimit, lowChar g.lineCap]

/-- Record kind, index and record of a settings report (10.3, 10.4). The index character of GLOBALS is
unused and so 0 (R190). -/
def Settings.chars (extra : List Byte) : Settings → List Byte
  | .profile i r => [1, lowChar i.val] ++ extra ++ r.chars
  | .convention i r => [2, lowChar i.val] ++ extra ++ conventionChars r
  | .globals r => [3, 0] ++ extra ++ r.chars

/-- The supervision timer's three characters: remaining time in bits 0 to 16, kind in bits 21 to 23
(10.6). -/
def timerChars (t : Option Timer) : List Byte :=
  let n := match t with
    | none => 0
    | some t => t.remaining % 131072 + 2097152 * timerCode (some t.kind)
  [lowChar n, highChar n, lowChar (n / 65536)]

/-- Offsets 32 to 39 of LINE REPLY: the digit in progress, all 0 when it is absent. -/
def digitChars : Option Digit → List Byte
  | none => [0, 0, 0, 0, 0, 0, 0, 0]
  | some d =>
    [lowChar (1 + bit d.mutilated 1 + 4 * d.convention.val + 16 * d.count), lowChar d.pairCount]
      ++ chars2 d.pairSum ++ chars2 d.flashMin ++ chars2 d.clearTime

/-- The flags character of LINE REPLY, offset 5. -/
def lineFlags (x : Line) (inGrantQueue : Bool) : Byte :=
  lowChar (bit (x.gate == .open) 0 + bit x.pulseDialled 1 + bit inGrantQueue 2 + bit x.callStart.isSome 3
    + bit (x.slicer.debounced == .closed) 4 + bit (x.decoder.run.polarity == .closed) 5
    + bit x.decoder.run.confirmed 6 + bit x.decoder.ended.isSome 7)

/-- LINE REPLY after its stamp: offsets 2 to 39 of 10.6. -/
def lineReplyChars (l : LineId) (x : Line) (inGrantQueue : Bool) : List Byte :=
  [lowChar l.val, x.state.code, lowChar x.profile.val, lineFlags x inGrantQueue, lowChar x.digitIndex]
    ++ chars2 (match x.callStart with | none => 0 | some t => (stampOf t).toNat)
    ++ timerChars x.timer
    ++ [lowChar (x.flaps + 16 * (match x.trace with | none => 15 | some i => i.val)), lowChar x.queue.length
      , (match x.sender with | none => 0xFF | some k => lowChar k.val), lowChar x.runCount]
    ++ chars2 x.slicer.lc ++ chars2 x.slicer.lo
    ++ [lowChar x.slicer.candidate, x.slicer.cls.code, lowChar x.slicer.faultReviews]
    ++ chars2 x.decoder.pEst ++ chars2H (stampOf x.decoder.run.start) ++ chars2 x.decoder.run.duration
    ++ chars2 (match x.decoder.ended with | none => 0 | some r => r.duration)
    ++ [lowChar (x.decoder.pendingBreak.getD 0)]
    ++ digitChars x.decoder.digit

/-! ### Reports (10.3) -/

/-- The value of a report's kind character. -/
def ReportBody.kind : ReportBody → Byte
  | .linkStart .. => 0x41
  | .auditReply .. => 0x42
  | .ack .. => 0x43
  | .reject .. => 0x44
  | .lineState .. => 0x45
  | .flash .. => 0x46
  | .digit .. => 0x47
  | .digitError .. => 0x48
  | .digitLost .. => 0x49
  | .digitSent .. => 0x4A
  | .classChange .. => 0x4B
  | .pulseTrace .. => 0x4C
  | .lineReply .. => 0x4D
  | .profileReply .. => 0x4E
  | .planeStatus .. => 0x4F
  | .clock .. => 0x50
  | .scan .. => 0x51
  | .settingsWritten .. => 0x52
  | .lineProfileWritten .. => 0x52
  | .lost .. => 0x53

/-- The body of a report after its stamp; absent optional fields take the absence codes of 10.4. -/
def ReportBody.chars : ReportBody → List Byte
  | .linkStart reason cause ch tb sc => [reason.code, cause.code] ++ chars2H ch ++ [tb.code, sc.code]
  | .auditReply ch ok => chars2H ch ++ [if ok then 1 else 0]
  | .ack k i d => [k, i.getD 0xFF] ++ chars2H d
  | .reject r k f len free room =>
    [r.code, k, (if f.isSome then 1 else 0), f.getD 0, len] ++ chars2 free ++ [lowChar room]
  | .lineState l new prev g c lk n =>
    [lowChar l.val, new.code, prev.code, g.code, c.code, linkCode lk, lowChar n]
  | .flash l d st => [lowChar l.val] ++ chars2 d ++ [st.code]
  | .digit l x o n m c i lk =>
    [lowChar l.val, symbolCode x, o.code, lowChar (n.getD 0)] ++ chars2 (m.getD 0)
      ++ [(match c with | none => 0xFF | some c => lowChar c.val), lowChar i, linkCode lk]
  | .digitError l r n c => [lowChar l.val, r.code, lowChar n, lowChar c.val]
  | .digitLost l r x i len free =>
    [lowChar l.val, r.code, symbolCode x, lowChar i, lowChar len] ++ chars2 free
  | .digitSent l k m c =>
    [lowChar l.val, lowChar k.val, m.code, symbolCode c.symbol, c.origin.code, lowChar (c.pulseCount.getD 0)]
      ++ chars2 (c.mean.getD 0) ++ [lowChar c.index] ++ chars2H c.stamp
  | .classChange l prev new lc lo n =>
    [lowChar l.val, prev.code, new.code] ++ chars2 lc ++ chars2 lo ++ [lowChar n]
  | .pulseTrace l p d v => [lowChar l.val, p.code] ++ chars2 d ++ [v.code]
  | .lineReply l x g => lineReplyChars l x g
  | .profileReply r => r.chars []
  | .planeStatus lk new prev c => [linkCode (some lk), new.code, prev.code, c.code]
  | .clock new prev a w => [new.code, prev.code, lowChar a, lowChar w]
  | .scan st => [st.code]
  | .settingsWritten r w => r.chars [linkCode (some w)]
  | .lineProfileWritten l prev new w =>
    [4, lowChar l.val, linkCode (some w), lowChar prev.val, lowChar new.val]
  | .lost n => chars2 n

/-- The body of a report: the stamp, then what follows it (10.3). -/
def Report.bodyChars (r : Report) : List Byte := chars2H r.stamp ++ r.body.chars

/-! ### Characters on a wire (R155, 10.1) -/

/-- The level of a bit of a character: marking for 1 (assumption log 34). -/
def levelOf (b : Bool) : WireLevel := if b then .marking else .spacing

/-- The positions of a character up to the stop bit: start bit at spacing, data with the least significant bit
first, mark flag (R155). -/
def WireChar.positions (ch : WireChar) : Vector WireLevel 10 :=
  #v[.spacing, levelOf (ch.data.getLsbD 0), levelOf (ch.data.getLsbD 1), levelOf (ch.data.getLsbD 2)
    , levelOf (ch.data.getLsbD 3), levelOf (ch.data.getLsbD 4), levelOf (ch.data.getLsbD 5)
    , levelOf (ch.data.getLsbD 6), levelOf (ch.data.getLsbD 7), levelOf ch.marked]

/-- The value of the data positions of a character, the first the least significant (R155). -/
def dataOf (v : Vector WireLevel 10) : Byte :=
  lowChar (bit (v.get 1 = .marking) 0 + bit (v.get 2 = .marking) 1 + bit (v.get 3 = .marking) 2
    + bit (v.get 4 = .marking) 3 + bit (v.get 5 = .marking) 4 + bit (v.get 6 = .marking) 5
    + bit (v.get 7 = .marking) 6 + bit (v.get 8 = .marking) 7)

/-- The mark flag of a character (R155). -/
def markOf (v : Vector WireLevel 10) : Bool := v.get 9 = .marking

/-! ### The envelope (R157) -/

/-- The sum of data values modulo 256. -/
def sumOf (bs : List Byte) : Byte := bs.foldl (· + ·) 0

/-- A message: marked kind, length, body, and the check character that makes the 8-bit sum 0. -/
def envelope (kind : Byte) (body : List Byte) : List WireChar :=
  let len := lowChar body.length
  ⟨kind, true⟩ :: ((len :: body) ++ [-(kind + len + sumOf body)]).map (fun b => ⟨b, false⟩)

/-- The characters of a report, as its link's transmitter sends them (R167). -/
def Report.wire (r : Report) : List WireChar := envelope r.body.kind r.bodyChars

/-- The 11 levels that a character puts on a wire, the stop bit at marking the last (R155). -/
def WireChar.levels (ch : WireChar) : List WireLevel := ch.positions.toList ++ [.marking]

/-- The levels that a report puts on the transmit wire, its characters back to back (R155, R167). -/
def Report.levels (r : Report) : List WireLevel := r.wire.flatMap WireChar.levels

/-! ### Commands (10.2) -/

/-- The least and greatest body length a command kind takes; none where the value names no command kind
(R160). -/
def commandLength (kind : Byte) : Option (Nat × Nat) :=
  match kind.toNat with
  | 0x01 => some (2, 2)
  | 0x02 => some (2, 2)
  | 0x03 => some (1, 1)
  | 0x04 => some (2, 2)
  | 0x05 => some (1, 1)
  | 0x06 => some (1, 1)
  | 0x07 => some (1, 1)
  | 0x08 => some (1, 1)
  | 0x09 => some (1, 1)
  | 0x0A => some (1, 1)
  | 0x0B => some (1, 1)
  | 0x0C => some (1, 40)
  | 0x0D => some (1, 1)
  | 0x0E => some (1, 1)
  | 0x0F => some (1, 1)
  | 0x10 => some (1, 1)
  | 0x11 => some (26, 26)
  | 0x12 => some (11, 11)
  | 0x13 => some (4, 4)
  | 0x14 => some (2, 2)
  | _ => none

/-- The profile record that 25 characters from offset `o` of a body spell (10.5). -/
def rawProfileAt (b : Nat → Byte) (o : Nat) : RawProfile :=
  { pNom := twoChars (b o) (b (o + 1)), nominal := b (o + 2), seizeTime := twoChars (b (o + 3)) (b (o + 4))
    flashMin := twoChars (b (o + 5)) (b (o + 6)), clearTime := twoChars (b (o + 7)) (b (o + 8))
    firstDigitTime := b (o + 9), partialTime := b (o + 10), settleTime := b (o + 11), flapLimit := b (o + 12)
    convention := b (o + 13), seizeGate := b (o + 14), tOn := twoChars (b (o + 15)) (b (o + 16))
    tOff := twoChars (b (o + 17)) (b (o + 18)), commit := twoChars (b (o + 19)) (b (o + 20))
    aL := twoChars (b (o + 21)) (b (o + 22)), aH := twoChars (b (o + 23)) (b (o + 24)) }

/-- The command that a kind and a body of a length the kind takes spell (10.2). -/
def spelledCommand (lk : LinkId) (kind : Byte) (body : List Byte) : Option Instr :=
  let b := fun i => body.getD i 0
  match kind.toNat with
  | 0x01 => some (.audit lk (twoChars (b 0) (b 1)))
  | 0x02 => some (.enable lk (b 0) (b 1))
  | 0x03 => some (.disable lk (b 0))
  | 0x04 => some (.setProfile lk (b 0) (b 1))
  | 0x05 => some (.openGate lk (b 0))
  | 0x06 => some (.shutGate lk (b 0))
  | 0x07 => some (.converse lk (b 0))
  | 0x08 => some (.resume lk (b 0))
  | 0x09 => some (.park lk (b 0))
  | 0x0A => some (.restore lk (b 0))
  | 0x0B => some (.withdraw lk (b 0))
  | 0x0C => some (.inject lk (b 0) (body.drop 1))
  | 0x0D => some (.relearn lk (b 0))
  | 0x0E => some (.traceOn lk (b 0))
  | 0x0F => some (.traceOff lk (b 0))
  | 0x10 => some (.queryLine lk (b 0))
  | 0x11 => some (.writeProfile lk (b 0) (rawProfileAt b 1))
  | 0x12 => some (.writeConvention lk (b 0) #v[b 1, b 2, b 3, b 4, b 5, b 6, b 7, b 8, b 9, b 10])
  | 0x13 => some (.writeGlobals lk ⟨twoChars (b 0) (b 1), b 2, b 3⟩)
  | 0x14 => some (.readSettings lk (b 0) (b 1))
  | _ => none

/-- The first body character of a message, if it has one and it was received (R162). `chars` are the
unmarked characters so far, the length first. -/
def firstBodyChar : List Byte → Option Byte
  | len :: b :: _ => if len = 0 then none else some b
  | _ => none

/-- A complete message judged in the order of R160: CHECK, UNKNOWN, LENGTH, and otherwise a command.
`chars` are its unmarked characters: the length, the body and the check. -/
def judgeMessage (lk : LinkId) (kind : Byte) (chars : List Byte) : Arrival :=
  let len := chars.getD 0 0
  if kind + sumOf chars ≠ 0 then .error ⟨.check, kind, firstBodyChar chars, 0⟩
  else
    match commandLength kind with
    | none => .error ⟨.unknown, kind, firstBodyChar chars, 0⟩
    | some (least, most) =>
      if len.toNat < least ∨ most < len.toNat then .error ⟨.length, kind, firstBodyChar chars, len⟩
      else
        match spelledCommand lk kind ((chars.drop 1).take len.toNat) with
        | some c => .command c
        | none => .error ⟨.unknown, kind, firstBodyChar chars, 0⟩

/-- The 25 characters of a profile record as a plane sends it (10.5). -/
def rawProfileChars (r : RawProfile) : List Byte :=
  chars2H r.pNom ++ [r.nominal] ++ chars2H r.seizeTime ++ chars2H r.flashMin ++ chars2H r.clearTime
    ++ [r.firstDigitTime, r.partialTime, r.settleTime, r.flapLimit, r.convention, r.seizeGate]
    ++ chars2H r.tOn ++ chars2H r.tOff ++ chars2H r.commit ++ chars2H r.aL ++ chars2H r.aH

/-- Issuing link, kind and body of a plane's command (10.2); none for a row that no plane sends. -/
def commandMessage : Instr → Option (LinkId × Byte × List Byte)
  | .audit lk ch => some (lk, 0x01, chars2H ch)
  | .enable lk l p => some (lk, 0x02, [l, p])
  | .disable lk l => some (lk, 0x03, [l])
  | .setProfile lk l p => some (lk, 0x04, [l, p])
  | .openGate lk l => some (lk, 0x05, [l])
  | .shutGate lk l => some (lk, 0x06, [l])
  | .converse lk l => some (lk, 0x07, [l])
  | .resume lk l => some (lk, 0x08, [l])
  | .park lk l => some (lk, 0x09, [l])
  | .restore lk l => some (lk, 0x0A, [l])
  | .withdraw lk l => some (lk, 0x0B, [l])
  | .inject lk l xs => some (lk, 0x0C, l :: xs)
  | .relearn lk l => some (lk, 0x0D, [l])
  | .traceOn lk l => some (lk, 0x0E, [l])
  | .traceOff lk l => some (lk, 0x0F, [l])
  | .queryLine lk l => some (lk, 0x10, [l])
  | .writeProfile lk i r => some (lk, 0x11, i :: rawProfileChars r)
  | .writeConvention lk i es => some (lk, 0x12, i :: es.toList)
  | .writeGlobals lk r => some (lk, 0x13, chars2H r.auditPeriod ++ [r.runLimit, r.lineCap])
  | .readSettings lk k i => some (lk, 0x14, [k, i])
  | _ => none

end Sys2Proof.Machine
end

