-- ==== Sys2Proof/Machine/Ops.lean ====
section
/-!
DEFINITION. Named access to the records of the part, the queuing of reports (R163 to R165), and the
answers of the links (R162).
-/

namespace Sys2Proof.Machine

/-! ### Records -/

def Part.line (p : Part) (l : LineId) : Line := p.lines.get l

def Part.setLine (p : Part) (l : LineId) (x : Line) : Part :=
  { p with lines := p.lines.set l.val x l.isLt }

def Part.updLine (p : Part) (l : LineId) (f : Line → Line) : Part := p.setLine l (f (p.line l))

def Part.sender (p : Part) (k : SenderId) : Sender := p.senders.get k

def Part.setSender (p : Part) (k : SenderId) (x : Sender) : Part :=
  { p with senders := p.senders.set k.val x k.isLt }

def Part.profile (p : Part) (i : ProfileId) : Profile := p.profiles.get i

def Part.setProfile (p : Part) (i : ProfileId) (r : Profile) : Part :=
  { p with profiles := p.profiles.set i.val r i.isLt }

def Part.convention (p : Part) (i : ConventionId) : Convention := p.conventions.get i

def Part.setConvention (p : Part) (i : ConventionId) (r : Convention) : Part :=
  { p with conventions := p.conventions.set i.val r i.isLt }

def Part.traceSlot (p : Part) (i : SlotId) : Option LineId := p.traceSlots.get i

def Part.setTraceSlot (p : Part) (i : SlotId) (o : Option LineId) : Part :=
  { p with traceSlots := p.traceSlots.set i.val o i.isLt }

def Part.link (p : Part) : LinkId → Link
  | .a => p.linkA
  | .b => p.linkB

def Part.setLink (p : Part) (lk : LinkId) (k : Link) : Part :=
  match lk with
  | .a => { p with linkA := k }
  | .b => { p with linkB := k }

def Part.updLink (p : Part) (lk : LinkId) (f : Link → Link) : Part := p.setLink lk (f (p.link lk))

/-- The line's current profile (R48). -/
def Part.profileOfLine (p : Part) (l : LineId) : Profile := p.profile (p.line l).profile

/-- Changes the decoder context of a line. -/
def Line.withDecoder (x : Line) (f : Decoder → Decoder) : Line := { x with decoder := f x.decoder }

/-- Changes the slicer context of a line. -/
def Line.withSlicer (x : Line) (f : Slicer → Slicer) : Line := { x with slicer := f x.slicer }

/-- The stamp of the present moment (R178). -/
def Part.stamp (p : Part) : Half := stampOf p.timeBase.lineTime

/-! ### Reports -/

/-- A report reaches a link's queue: not queued on a FAILED link (R164), dropped and counted at 128
entries (R165), and otherwise placed at the tail (R163). -/
def Link.push (k : Link) (r : Report) : Link :=
  match k.state with
  | .failed => k
  | .alive | .suspect =>
    if k.queue.length < 128 then { k with queue := k.queue ++ [r] }
    else { k with lost := min 65535 (k.lost + 1) }

/-- Queues a report on one link, stamped with the present line time. -/
def Part.report (p : Part) (lk : LinkId) (body : ReportBody) : Part :=
  p.updLink lk (fun k => k.push ⟨p.stamp, body⟩)

/-- Queues a report for both links (R164). -/
def Part.reportBoth (p : Part) (body : ReportBody) : Part := (p.report .a body).report .b body

/-- Answers ACK on the issuing link (R162). -/
def Part.ack (p : Part) (lk : LinkId) (kind : Byte) (index : Option Byte) (detail : Half) : Part :=
  p.report lk (.ack kind index detail)

/-- Answers REJECT on the issuing link for a command refused by an index check or by its block (R162);
free count and room are 0 unless NO_ROOM (10.3). -/
def Part.reject (p : Part) (lk : LinkId) (reason : RejectReason) (kind first : Byte) : Part :=
  p.report lk (.reject reason kind (some first) 0 0 0)

/-- Queues a LINE STATE report with the line's present state and gate (R50). -/
def Part.lineStateReport (p : Part) (l : LineId) (previous : LineState) (cause : LineCause)
    (link : Option LinkId) (flushed : Nat) : Part :=
  p.reportBoth (.lineState l (p.line l).state previous (p.line l).gate cause link flushed)

/-- Queues a PULSE TRACE report if the line holds a trace slot and is in ACTIVE or CONVERSE (R46). -/
def Part.traceReport (p : Part) (l : LineId) (polarity : Loop) (duration : Nat) (v : Verdict) : Part :=
  if (p.line l).trace.isSome ∧ ((p.line l).state = .active ∨ (p.line l).state = .converse) then
    p.reportBoth (.pulseTrace l polarity duration v)
  else p

/-! ### Order over lines -/

/-- Takes a step for each line in ascending order (assumption log 7). -/
def Part.forLines (p : Part) (f : LineId → Part → Part) : Part := allLines.foldl (fun p l => f l p) p

/-- Takes a step for each sender in ascending order. -/
def Part.forSenders (p : Part) (f : SenderId → Part → Part) : Part :=
  allSenders.foldl (fun p k => f k p) p

end Sys2Proof.Machine
end

