-- ==== Sys2Proof/Machine/Pool.lean ====
section
/-!
DEFINITION. The digit store (chapter 04) and the sender pool (chapter 05): enqueue, commit, restore and
flush of cells; eligibility, the grant queue, the grant, capture, continuation, release and abort.
-/

namespace Sys2Proof.Machine

/-! ### Eligibility and the grant queue -/

/-- The line has a head cell and it is QUEUED (R82). -/
def Line.headQueued (x : Line) : Bool :=
  match x.queue with
  | [] => false
  | c :: _ => !c.sending

/-- The line is able to send its next cell: ACTIVE, gate OPEN, head QUEUED (R104). -/
def Line.canSend (x : Line) : Bool :=
  decide (x.state = .active) && decide (x.gate = .open) && x.headQueued

/-- Eligibility (R95). -/
def Part.eligible (p : Part) (l : LineId) : Bool :=
  (p.line l).canSend && (p.line l).sender.isNone && !p.grantQueue.contains l

/-- The values a sender captures from a profile (R100). -/
def Profile.capture (r : Profile) : Captured := ⟨r.tOn, r.tOff, r.commit, r.aL, r.aH⟩

/-- The lowest-numbered FREE sender. -/
def Part.lowestFree (p : Part) : Option SenderId :=
  allSenders.find? (fun k => decide ((p.sender k).state = .free))

/-- A sender's record at the start of a burst of a symbol on a line (R99, R104). -/
def burstStart (l : LineId) (x : Symbol) (c : Captured) : Sender :=
  ⟨.toneOn, some l, some x, 0, some c, some (0, 0)⟩

/-- The grant of sender `k` to line `l` (R99). A line with no head is not granted (assumption log 11). -/
def Part.grant (p : Part) (l : LineId) (k : SenderId) : Part :=
  match (p.line l).queue with
  | [] => p
  | c :: cs =>
    (p.setLine l { p.line l with sender := some k, runCount := 1, queue := { c with sending := true } :: cs }).setSender
      k (burstStart l c.symbol (p.profileOfLine l).capture)

/-- One round of the grant test: the head of the grant queue leaves it and is granted the lowest-numbered
FREE sender, while LOCKED (R98, R112). -/
def Part.grantOnce (p : Part) : Part :=
  match p.timeBase.state, p.grantQueue, p.lowestFree with
  | .locked, l :: rest, some k => { p with grantQueue := rest }.grant l k
  | _, _, _ => p

/-- The grant test: made again until no sender is FREE or the grant queue is empty (R98). Each round
takes a line off the grant queue, so its length bounds the rounds. -/
def Part.grantTest (p : Part) : Part := p.grantQueue.foldl (fun p _ => p.grantOnce) p

/-- A line that is eligible joins the grant queue at its tail, and the grant test is made (R96, R98). -/
def Part.judge (p : Part) (l : LineId) : Part :=
  if p.eligible l then { p with grantQueue := p.grantQueue ++ [l] }.grantTest else p

/-- A line leaves the grant queue from wherever it stands (R97). -/
def Part.leaveGrantQueue (p : Part) (l : LineId) : Part :=
  { p with grantQueue := p.grantQueue.filter (fun m => decide (m ≠ l)) }

/-! ### Cells -/

/-- The next digit index: one more, and 1 after 255 (R77). -/
def nextIndex (i : Nat) : Nat := if 255 ≤ i then 1 else i + 1

/-- Takes a free cell and places it at the tail of the line's queue (R78, R91). -/
def Part.enqueue (p : Part) (l : LineId) (c : Cell) : Part :=
  { p.setLine l { p.line l with queue := (p.line l).queue ++ [c] } with free := p.free - 1 }

/-- Removes and frees the head cell, whose fields go to DIGIT SENT (R84, R102). -/
def Part.commit (p : Part) (l : LineId) (k : SenderId) (m : Manner) : Part :=
  match (p.line l).queue with
  | [] => p
  | c :: cs =>
    ({ p.setLine l { p.line l with queue := cs } with free := p.free + 1 } : Part).reportBoth (.digitSent l k m c)

/-- The head cell goes back to QUEUED (R85). -/
def Part.restoreHead (p : Part) (l : LineId) : Part :=
  match (p.line l).queue with
  | [] => p
  | c :: cs => p.setLine l { p.line l with queue := { c with sending := false } :: cs }

/-- Frees every cell of the line's queue (R86). -/
def Part.flush (p : Part) (l : LineId) : Part :=
  { p.setLine l { p.line l with queue := [] } with free := p.free + (p.line l).queue.length }

/-! ### Abort and release -/

/-- The sender becomes FREE and the line holds none (R93, R94). -/
def Part.freeSender (p : Part) (l : LineId) (k : SenderId) : Part :=
  (p.setLine l { p.line l with sender := none, runCount := 0 }).setSender k Sender.freed

/-- The frames played reach the captured commit point (R101, R109). -/
def Sender.pastCommit (x : Sender) : Bool :=
  match x.captured with
  | none => false
  | some c => decide (8 * c.commit ≤ x.elapsed)

/-- What an abort does to the cell (R109). -/
def Part.abortCell (p : Part) (l : LineId) (k : SenderId) : Part :=
  match (p.sender k).state with
  | .toneOn => if (p.sender k).pastCommit then p.commit l k .atAbort else p.restoreHead l
  | .toneOff | .free => p

/-- The abort of the sender that a line holds, without the grant test (R109). -/
def Part.abortOnly (p : Part) (l : LineId) : Part :=
  match (p.line l).sender with
  | none => p
  | some k => (p.abortCell l k).freeSender l k

/-- The abort of the sender that a line holds, and the grant test that follows it; nothing for a line that
holds none (R109, R110). The line itself does not rejoin the grant queue: each of these causes takes it
out and flushes it (assumption log 12). -/
def Part.abort (p : Part) (l : LineId) : Part :=
  match (p.line l).sender with
  | none => p
  | some _ => (p.abortOnly l).grantTest

/-- Release at the end of TONE_OFF (R105). -/
def Part.release (p : Part) (l : LineId) (k : SenderId) : Part := ((p.freeSender l k).judge l).grantTest

/-- The sender continues on its line with the new head cell (R104). -/
def Part.continueBurst (p : Part) (l : LineId) (k : SenderId) : Part :=
  match (p.line l).queue with
  | [] => p
  | c :: cs =>
    (p.setLine l { p.line l with runCount := min 16 ((p.line l).runCount + 1), queue := { c with sending := true } :: cs }).setSender
      k (burstStart l c.symbol (p.profileOfLine l).capture)

/-- The on phase of sender `k` has run its course (R101). -/
def Sender.onPhaseDone (x : Sender) : Bool :=
  match x.state, x.captured with
  | .toneOn, some c => decide (8 * c.tOn ≤ x.elapsed)
  | _, _ => false

/-- The off phase of sender `k` has run its course (R104). -/
def Sender.offPhaseDone (x : Sender) : Bool :=
  match x.state, x.captured with
  | .toneOff, some c => decide (8 * c.tOff ≤ x.elapsed)
  | _, _ => false

/-- A sender's record as it enters TONE_OFF: symbol and accumulators dropped (R102). -/
def Sender.toOff (x : Sender) : Sender :=
  { x with state := .toneOff, symbol := none, elapsed := 0, phases := none }

/-- The end of the on phase: the cell is committed and the sender enters TONE_OFF (R102). -/
def Part.onPhaseEnd (p : Part) (k : SenderId) : Part :=
  match (p.sender k).onPhaseDone, (p.sender k).line with
  | true, some l => (p.commit l k .endOfTone).setSender k (p.sender k).toOff
  | _, _ => p

/-- The decision at the end of TONE_OFF: to continue, or to release (R104). -/
def Part.continues (p : Part) (l : LineId) : Bool :=
  (p.line l).canSend && (decide ((p.line l).runCount < p.globals.runLimit) || p.grantQueue.isEmpty)

/-- The end of the off phase (R104). -/
def Part.toneOffEnd (p : Part) (k : SenderId) : Part :=
  match (p.sender k).offPhaseDone, (p.sender k).line with
  | true, some l => if p.continues l then p.continueBurst l k else p.release l k
  | _, _ => p

/-! ### Enqueue of dialled and injected digits -/

/-- Why a dialled digit finds no room: LINE before POOL (R78). `n` is the line's queue length. -/
def Part.lossReason (p : Part) (n : Nat) : Option LossReason :=
  if p.globals.lineCap ≤ n then some .line
  else if p.free = 0 then some .pool
  else none

/-- A dialled digit is offered to the store: it takes the next index, DIGIT is queued, and the digit is
enqueued or lost (R39, R78, R79). -/
def Part.offerDigit (p : Part) (l : LineId) (x : Symbol) (n : Nat) (mean : Option Nat) (c : ConventionId) : Part :=
  let i := nextIndex (p.line l).digitIndex
  let len := (p.line l).queue.length
  let p := p.updLine l (fun y => { y with digitIndex := i })
  let p := p.reportBoth (.digit l x .dialled (some n) mean (some c) i none)
  match p.lossReason len with
  | some r => p.reportBoth (.digitLost l r x i len p.free)
  | none => (p.enqueue l ⟨x, .dialled, some n, mean, i, p.stamp, false⟩).judge l

/-- One injected symbol: next index, cell, DIGIT report (R91). -/
def Part.injectOne (p : Part) (lk : LinkId) (l : LineId) (x : Symbol) : Part :=
  let i := nextIndex (p.line l).digitIndex
  let p := p.updLine l (fun y => { y with digitIndex := i })
  let p := p.enqueue l ⟨x, .injected, none, none, i, p.stamp, false⟩
  p.reportBoth (.digit l x .injected none none none i (some lk))

/-- The symbols of an INJECT, in list order, then the judging of the line (R91). -/
def Part.injectAll (p : Part) (lk : LinkId) (l : LineId) (xs : List Symbol) : Part :=
  (xs.foldl (fun p x => p.injectOne lk l x) p).judge l

/-- The line's room: line_cap less the queue length, or 0 (R90). -/
def Part.room (p : Part) (l : LineId) : Nat := p.globals.lineCap - (p.line l).queue.length

end Sys2Proof.Machine
end

