-- ==== Sys2Proof/Machine/Slicing.lean ====
section
/-!
DEFINITION. The arithmetic of the slicer (chapter 01): threshold and hysteresis (R8), debounce (R9, R10),
level tracking (R11), and the class with its parameters (R15, R16, R18).
-/

namespace Sys2Proof.Machine

/-- The threshold T (R8). -/
def Slicer.threshold (x : Slicer) : Nat := (x.lc + x.lo) / 2

/-- The hysteresis H (R8). -/
def Slicer.hysteresis (x : Slicer) : Nat := (x.lc - x.lo) / 8

/-- The sample is open-side: 16c is less than T - H (R8). -/
def Slicer.openSide (x : Slicer) (c : Nat) : Bool := decide (16 * c + x.hysteresis < x.threshold)

/-- The sample is closed-side: 16c is greater than T + H (R8). -/
def Slicer.closedSide (x : Slicer) (c : Nat) : Bool := decide (x.threshold + x.hysteresis < 16 * c)

/-- The debounce run length D of a class (R16). -/
def LineClass.debounce : LineClass → Nat
  | .clean => 4 | .damp => 6 | .weak => 8 | .fault => 8

/-- Bmin of a class, in ms (R16). -/
def LineClass.bmin : LineClass → Nat
  | .clean => 20 | .damp => 24 | .weak => 28 | .fault => 28

/-- The timer factor of a class (R16). -/
def LineClass.factor : LineClass → Nat
  | .clean => 1 | .damp => 2 | .weak => 2 | .fault => 2

/-- The other loop state. -/
def Loop.flip : Loop → Loop
  | .open => .closed
  | .closed => .open

/-- The sample lies on the side that speaks against the debounced state (R9). -/
def Slicer.against (x : Slicer) (c : Nat) : Bool :=
  match x.debounced with
  | .closed => x.openSide c
  | .open => x.closedSide c

/-- The candidate run count raised or cleared by a sample (R9). -/
def Slicer.raised (x : Slicer) (c : Nat) : Nat := if x.against c then x.candidate + 1 else 0

/-- The sample completes a debounced transition: a raised count has reached D (R9, R10). -/
def Slicer.completes (x : Slicer) (c : Nat) : Bool :=
  x.against c && decide (x.cls.debounce ≤ x.candidate + 1)

/-- A level moved an eighth of the way towards 16c, the quotient truncated toward zero (R11). -/
def trackLevel (level target : Nat) : Nat :=
  (Int.ofNat level + (Int.ofNat target - Int.ofNat level).tdiv 8).toNat

/-- Level tracking with the threshold `t` of the sample and the debounced state after the step (R11). -/
def Slicer.track (x : Slicer) (t c : Nat) : Slicer :=
  match x.debounced with
  | .closed => if t ≤ 16 * c then { x with lc := trackLevel x.lc (16 * c) } else x
  | .open => if 16 * c ≤ t then { x with lo := trackLevel x.lo (16 * c) } else x

/-- The debounce step (R9). -/
def Slicer.debounceStep (x : Slicer) (c : Nat) : Slicer :=
  if x.completes c then { x with debounced := x.debounced.flip, candidate := 0 }
  else { x with candidate := x.raised c }

/-- One sample: debounce, then tracking, both with the threshold before the sample (R8, R9, R11). -/
def Slicer.take (x : Slicer) (c : Nat) : Slicer := (x.debounceStep c).track x.threshold c

/-- The debounced state that a sample sets directly: CLOSED if 16c is greater than T (R6, R12). -/
def Slicer.direct (x : Slicer) (c : Nat) : Loop := if x.threshold < 16 * c then .closed else .open

/-- The first sample after ENABLE, and a sample that restores the scan: no debounce, the candidate run
count at 0, then tracking (R6, R12). -/
def Slicer.takeDirect (x : Slicer) (c : Nat) : Slicer :=
  ({ x with debounced := x.direct c, candidate := 0, awaitingFirst := false } : Slicer).track x.threshold c

/-- The class of a review: the first row of R15 whose condition holds. -/
def Slicer.reviewClass (x : Slicer) : LineClass :=
  let s := x.lc - x.lo
  if s < 96 then .fault
  else if s < 320 then .weak
  else if 64 < x.lo then .damp
  else .clean

/-- The FAULT review count after a review that sets `c` (R18). -/
def faultReviewsAfter (n : Nat) (c : LineClass) : Nat :=
  match c with
  | .fault => min 8 (n + 1)
  | .clean | .damp | .weak => 0

/-- A review: the class and the FAULT review count (R15, R18). -/
def Slicer.review (x : Slicer) : Slicer :=
  { x with cls := x.reviewClass, faultReviews := faultReviewsAfter x.faultReviews x.reviewClass }

/-- The levels that ENABLE and RELEARN seed from a nominal closed current (R12, R13). -/
def Slicer.seed (x : Slicer) (nominal : Nat) : Slicer :=
  { x with lc := 16 * nominal, lo := 0, candidate := 0 }

/-- The context as ENABLE initialises it (R12). The debounced state waits for the first sample. -/
def Slicer.enable (x : Slicer) (nominal : Nat) : Slicer :=
  { x.seed nominal with cls := .clean, faultReviews := 0, awaitingFirst := true }

end Sys2Proof.Machine
end

