-- ==== Sys2Proof/Machine/Supervisor.lean ====
section
/-!
DEFINITION. The line supervisor (chapter 03): timers (R49), entry to a state, the steps of leaving ACTIVE
(R59), seizure (R53), flaps (R55), quarantine (R63), the clear (R58), and the timer expiries.
-/

namespace Sys2Proof.Machine

/-! ### Timers -/

/-- The length of a timer at its start (R49). -/
def timerLength (k : TimerKind) (x : Line) (r : Profile) : Nat :=
  match k with
  | .rest => 30000
  | .seize => r.seizeTime - x.decoder.run.duration
  | .firstDigit => r.firstDigitTime * 1000 * x.slicer.cls.factor
  | .partialDial => r.partialTime * 1000 * x.slicer.cls.factor
  | .settle => r.settleTime * 1000

/-- Starts a timer afresh at its full length, in place of any timer that runs (R49). -/
def Part.startTimer (p : Part) (l : LineId) (k : TimerKind) : Part :=
  p.updLine l (fun x => { x with timer := some ⟨k, timerLength k x (p.profileOfLine l)⟩ })

/-- Stops the line's timer. -/
def Part.stopTimer (p : Part) (l : LineId) : Part := p.updLine l (fun x => { x with timer := none })

/-- A timer of the kind has reached 0 and its expiry has not been taken. -/
def Line.expired (x : Line) (k : TimerKind) : Bool := decide (x.timer = some ⟨k, 0⟩)

/-! ### Entry to a state -/

/-- Removes any digit in progress with its pending break (R35, R41). -/
def Part.dropDigit (p : Part) (l : LineId) : Part :=
  p.updLine l (fun x => x.withDecoder (fun d => { d with digit := none, pendingBreak := none }))

/-- What entry to a state does to the runs: any ended run is removed, and the run in progress is confirmed
except on entry to DISABLED, which keeps the run's values (R20, R21, R26). -/
def Decoder.enter (d : Decoder) (st : LineState) : Decoder :=
  { d with
    run := if st = .disabled then d.run else { d.run with confirmed := true }
    ended := none
    tests := .made }

/-- Enters a state: the running timer stops, and the runs are as R26 leaves them. -/
def Part.enterState (p : Part) (l : LineId) (st : LineState) : Part :=
  p.updLine l (fun x => { x with state := st, timer := none, decoder := x.decoder.enter st })

/-- The timer that entry to a state starts, where the state has one of one kind (R51, R56, R63). -/
def LineState.timer : LineState → Option TimerKind
  | .idle => some .rest
  | .seizing => some .seize
  | .active => some .firstDigit
  | .quarantine => some .settle
  | .disabled | .converse | .parked => none

/-- Enters a state with its timer. -/
def Part.enterWithTimer (p : Part) (l : LineId) (st : LineState) : Part :=
  match st.timer with
  | none => p.enterState l st
  | some k => (p.enterState l st).startTimer l k

/-! ### Leaving ACTIVE (R59) -/

/-- Steps 3 and 4 of R59: the sender is aborted and the line leaves the grant queue. -/
def Part.giveUpSender (p : Part) (l : LineId) : Part := (p.abort l).leaveGrantQueue l

/-- Steps 1 to 4 of R59. -/
def Part.clearOut (p : Part) (l : LineId) : Part := ((p.dropDigit l).stopTimer l).giveUpSender l

/-- The steps of R59, to a new state, with the LINE STATE report that carries the flushed count. -/
def Part.leaveFor (p : Part) (l : LineId) (st : LineState) (cause : LineCause) (link : Option LinkId) : Part :=
  let previous := (p.line l).state
  let p := p.clearOut l
  let flushed := (p.line l).queue.length
  ((p.flush l).enterWithTimer l st).lineStateReport l previous cause link flushed

/-- Entry to QUARANTINE (R63). -/
def Part.quarantine (p : Part) (l : LineId) (cause : LineCause) : Part := p.leaveFor l .quarantine cause none

/-! ### Seizure and flaps -/

/-- The flap count after a rise: a count of 15 stays at 15 (R55). -/
def flapRise (n : Nat) : Nat := min 15 (n + 1)

/-- A rise of the flap count reaches the flap_limit of the line's current profile (R55). -/
def Part.flapsOut (p : Part) (l : LineId) : Bool :=
  decide ((p.profileOfLine l).flapLimit ≤ flapRise (p.line l).flaps)

/-- Raises the line's flap count. -/
def Part.raiseFlaps (p : Part) (l : LineId) : Part := p.updLine l (fun x => { x with flaps := flapRise x.flaps })

/-- Passage to SEIZING (R52). -/
def Part.startSeizing (p : Part) (l : LineId) : Part := p.enterWithTimer l .seizing

/-- An abandoned seizure (R54). -/
def Part.abandonSeizure (p : Part) (l : LineId) : Part :=
  if p.flapsOut l then (p.raiseFlaps l).quarantine l .flap else (p.raiseFlaps l).enterWithTimer l .idle

/-- The entry of a seizure: ACTIVE with the gate from seize_gate, the flag clear, the index 0, the call
start at the present line time, and the FIRST_DIGIT timer (R53, R72). -/
def Part.seize (p : Part) (l : LineId) : Part :=
  let gate := (p.profileOfLine l).seizeGate
  let now := p.timeBase.lineTime
  (p.updLine l (fun x => { x with gate := gate, pulseDialled := false, digitIndex := 0, callStart := some now })).enterWithTimer
    l .active

/-- What the supervisor does with a debounced transition to `new` (R51, R52, R54, R57, R64). -/
def Part.superviseTransition (p : Part) (l : LineId) (new : Loop) : Part :=
  match (p.line l).state, new with
  | .idle, .closed => p.startSeizing l
  | .seizing, .open => p.abandonSeizure l
  | .active, .open => p.updLine l (fun x => { x with pulseDialled := true })
  | .quarantine, _ => p.startTimer l .settle
  | _, _ => p

/-! ### The clear -/

/-- The clear is a short call: the digit index is still 0 and the open run began less than 1000 ms after
the call start (R59). The supervisor's difference is taken modulo 2^32 (R178), so a run back-dated to before the
call start makes no short call (assumption log 9). -/
def Line.shortCall (x : Line) : Bool :=
  match x.callStart with
  | none => false
  | some t => decide (x.digitIndex = 0) && decide ((x.decoder.run.start - t).toNat < 1000)

/-- A CLEAR handed by the decoder (R58, R59, R62). -/
def Part.takeClear (p : Part) (l : LineId) : Part :=
  match (p.line l).state with
  | .active =>
    if (p.line l).shortCall then
      if p.flapsOut l then (p.raiseFlaps l).quarantine l .flap
      else (p.raiseFlaps l).leaveFor l .idle .clear none
    else p.leaveFor l .idle .clear none
  | .converse | .parked => p.leaveFor l .idle .clear none
  | .disabled | .idle | .seizing | .quarantine => p

/-! ### Expiries -/

/-- The REST timer expires (R51, R55). -/
def Part.restExpiry (p : Part) (l : LineId) : Part :=
  if (p.line l).expired .rest then p.updLine l (fun x => { x with timer := none, flaps := 0 }) else p

/-- The SEIZE timer expires (R53). -/
def Part.seizeExpiry (p : Part) (l : LineId) : Part :=
  if (p.line l).expired .seize then
    ((p.seize l).lineStateReport l (p.line l).state .seize none 0).judge l
  else p

/-- The FIRST_DIGIT timer expires (R56). -/
def Part.firstDigitExpiry (p : Part) (l : LineId) : Part :=
  if (p.line l).expired .firstDigit then p.leaveFor l .parked .firstDigit none else p

/-- The PARTIAL timer expires (R56). -/
def Part.partialExpiry (p : Part) (l : LineId) : Part :=
  if (p.line l).expired .partialDial then p.leaveFor l .parked .partialDial none else p

/-- The state that QUARANTINE is left for by settling: IDLE if the debounced state is OPEN, PARKED if it
is CLOSED (R64). -/
def settledState : Loop → LineState
  | .open => .idle
  | .closed => .parked

/-- The SETTLE timer expires (R64). -/
def Part.settleExpiry (p : Part) (l : LineId) : Part :=
  if (p.line l).expired .settle then
    (p.enterWithTimer l (settledState (p.line l).slicer.debounced)).lineStateReport l (p.line l).state .settled none 0
  else p

/-! ### Class reviews -/

/-- What follows a review that set FAULT (R19, R64). -/
def Part.faultReviewed (p : Part) (l : LineId) : Part :=
  match (p.line l).state with
  | .quarantine => p.startTimer l .settle
  | .idle | .seizing | .active | .converse | .parked =>
    if (p.line l).slicer.faultReviews = 8 then p.quarantine l .fault else p
  | .disabled => p

/-- Queues CLASS CHANGE if the class differs from the previous one (R17). -/
def Part.classChangeReport (p : Part) (l : LineId) (previous : LineClass) : Part :=
  let x := (p.line l).slicer
  if x.cls = previous then p else p.reportBoth (.classChange l previous x.cls x.lc x.lo x.faultReviews)

/-- The review of one line that is not DISABLED (R15, R17, R18, R19). -/
def Part.reviewLine (p : Part) (l : LineId) : Part :=
  if (p.line l).state = .disabled then p
  else
    let previous := (p.line l).slicer.cls
    let p := (p.updLine l (fun x => x.withSlicer Slicer.review)).classChangeReport l previous
    if (p.line l).slicer.cls = .fault then p.faultReviewed l else p

/-- The class review of a tick, passed over while the scan is LOST (R14). -/
def Part.classReview (p : Part) : Part :=
  if p.timeBase.reviewDue then
    let p := { p with timeBase := { p.timeBase with reviewDue := false } }
    match p.scan.state with
    | .lost => p
    | .running => p.forLines (fun l p => p.reviewLine l)
  else p

end Sys2Proof.Machine
end

