-- ==== Sys2Proof/Machine/Decoding.lean ====
section
/-!
DEFINITION. The pulse decoder (chapter 02): run measurement (R21), spikes (R24), confirmation and
settlement (R23, R27, R30), pulses, pairs and period adaptation (R32 to R37), the digit end (R38 to R40),
the gap and clear tests (R28, R29, R31), and the order of one sample's tests (R42).
-/

namespace Sys2Proof.Machine

/-! ### Runs -/

/-- The accumulated duration at a sample of time `t`: that time less the run's start, plus one, held at
65535 once reached (R21). -/
def Run.accumulate (r : Run) (t : LineTime) : Nat :=
  if r.duration = 65535 then 65535 else min 65535 ((t - r.start).toNat + 1)

/-- The duration of a run that ends at `t`: its end time less its start time, held at 65535. A run whose
accumulated duration is held, and whose difference has wrapped, is held too (R21, R178, assumption
log 10). -/
def Run.endedDuration (r : Run) (t : LineTime) : Nat :=
  if r.duration = 65535 ∧ (t - r.start).toNat < 65528 then 65535 else min 65535 (t - r.start).toNat

/-- A run as it ends at `t`. -/
def Run.endAt (r : Run) (t : LineTime) : Run := { r with duration := r.endedDuration t }

/-- A new run of a polarity that starts at `t`. -/
def Run.begin (polarity : Loop) (t : LineTime) (confirmed : Bool) : Run := ⟨polarity, t, 0, confirmed⟩

/-- A spike ends: it is absorbed into the ended run, which becomes the run in progress again (R24). -/
def Decoder.absorb (d : Decoder) (new : Loop) (t : LineTime) : Decoder :=
  match d.ended with
  | some r => { d with run := r, ended := none }
  | none => { d with run := Run.begin new t false }

/-- A confirmed run ends in ACTIVE or CONVERSE and awaits settlement (R23, R42). -/
def Decoder.keepEnded (d : Decoder) (new : Loop) (t : LineTime) : Decoder :=
  { d with run := Run.begin new t false, ended := some (d.run.endAt t) }

/-- A run ends in a state without confirmation: it is not kept, and the new run starts confirmed (R21). -/
def Decoder.replaceRun (d : Decoder) (new : Loop) (t : LineTime) : Decoder :=
  { d with run := Run.begin new t true, ended := none }

/-- The end of the run in progress at a debounced transition back-dated to `t` (R21, R24, R42). -/
def Part.endRun (p : Part) (l : LineId) (new : Loop) (t : LineTime) : Part :=
  let x := p.line l
  if x.state = .active ∨ x.state = .converse then
    if x.decoder.run.confirmed then p.updLine l (fun y => y.withDecoder (fun d => d.keepEnded new t))
    else
      (p.updLine l (fun y => y.withDecoder (fun d => d.absorb new t))).traceReport l x.decoder.run.polarity
        (x.decoder.run.endedDuration t) .absorbed
  else p.updLine l (fun y => y.withDecoder (fun d => d.replaceRun new t))

/-- The run in progress counts the sample of time `t` (R21). -/
def Part.accumulate (p : Part) (l : LineId) (t : LineTime) : Part :=
  p.updLine l (fun x => x.withDecoder (fun d => { d with run := { d.run with duration := d.run.accumulate t } }))

/-- A run that starts, confirmed, with the sample of time `t` (R6, R12). -/
def Part.startRun (p : Part) (l : LineId) (polarity : Loop) (t : LineTime) : Part :=
  p.updLine l (fun x => x.withDecoder (fun d =>
    { d with run := ⟨polarity, t, 1, true⟩, ended := none, tests := .made }))

/-! ### Limits (R22) -/

/-- Bmax: P_est / 16, rounded down. -/
def Decoder.bmax (d : Decoder) : Nat := d.pEst / 16

/-- G: P_est / 8, rounded down. -/
def Decoder.gapLimit (d : Decoder) : Nat := d.pEst / 8

/-- flash_min: the snapshot's while a digit is in progress, the current profile's otherwise. -/
def Part.flashMin (p : Part) (l : LineId) : Nat :=
  match (p.line l).decoder.digit with
  | some g => g.flashMin
  | none => (p.profileOfLine l).flashMin

/-- clear_time: the snapshot's while a digit is in progress, the current profile's otherwise. -/
def Part.clearTime (p : Part) (l : LineId) : Nat :=
  match (p.line l).decoder.digit with
  | some g => g.clearTime
  | none => (p.profileOfLine l).clearTime

/-! ### Settlement -/

/-- A fresh digit with its snapshot (R32, R33). -/
def Profile.startDigit (r : Profile) (count : Nat) (mutilated : Bool) : Digit :=
  ⟨count, mutilated, 0, 0, r.flashMin, r.clearTime, r.convention⟩

/-- A PULSE adds to the digit in progress or starts one (R32). -/
def Profile.addPulse (r : Profile) (g : Option Digit) : Digit :=
  match g with
  | none => r.startDigit 1 false
  | some g => { g with count := min 11 (g.count + 1) }

/-- An INVALID marks the digit in progress or starts a mutilated one (R33). -/
def Profile.addInvalid (r : Profile) (g : Option Digit) : Digit :=
  match g with
  | none => r.startDigit 0 true
  | some g => { g with mutilated := true }

/-- P_est after a pair of `n` ms (R37). -/
def adaptPeriod (pEst n : Nat) : Nat :=
  if 55 ≤ n ∧ n ≤ 160 then (Int.ofNat pEst + (Int.ofNat (16 * n) - Int.ofNat pEst).tdiv 4).toNat else pEst

/-- A pair of `n` ms counted into the digit (R36). -/
def Digit.addPair (g : Digit) (n : Nat) : Digit :=
  { g with pairSum := min 65535 (g.pairSum + n), pairCount := min 255 (g.pairCount + 1) }

/-- A MAKE of `m` ms settled: a pair forms if a digit is in progress and a pending break is present
(R30, R36, R37). -/
def Decoder.settleMake (d : Decoder) (m : Nat) : Decoder :=
  match d.digit, d.pendingBreak with
  | some g, some b =>
    { d with digit := some (g.addPair (b + m)), pendingBreak := none, pEst := adaptPeriod d.pEst (b + m) }
  | _, _ => d

/-- Queues DIGIT ERROR for a digit (R40). -/
def Part.digitErrorReport (p : Part) (l : LineId) (r : DigitErrorReason) (g : Digit) : Part :=
  p.reportBoth (.digitError l r g.count g.convention)

/-- A FLASH abandons the digit in progress (R34). -/
def Part.breakDigit (p : Part) (l : LineId) : Part :=
  match (p.line l).decoder.digit with
  | none => p
  | some g => (p.dropDigit l).digitErrorReport l .broken g

/-- The class of a settled open run of `b` ms (R27). -/
def openVerdict (bmax flashMin b : Nat) : Verdict :=
  if b ≤ bmax then .pulse else if b < flashMin then .invalid else .flash

/-- What a settled open run does in ACTIVE (R32, R33, R34). -/
def Part.openRunActive (p : Part) (l : LineId) (v : Verdict) (b : Nat) : Part :=
  let r := p.profileOfLine l
  match v with
  | .pulse =>
    (p.updLine l (fun x => x.withDecoder (fun d =>
      { d with digit := some (r.addPulse d.digit), pendingBreak := some b }))).startTimer l .partialDial
  | .invalid => p.updLine l (fun x => x.withDecoder (fun d => { d with digit := some (r.addInvalid d.digit) }))
  | _ => ((p.breakDigit l).reportBoth (.flash l b .active)).startTimer l .partialDial

/-- What a settled open run does in CONVERSE: a FLASH is reported, PULSE and INVALID are ignored (R32,
R33, R34). -/
def Part.openRunConverse (p : Part) (l : LineId) (v : Verdict) (b : Nat) : Part :=
  match v with
  | .flash => p.reportBoth (.flash l b .converse)
  | _ => p

/-- Settlement of an open run of `b` ms (R27, R46, R47). -/
def Part.settleOpen (p : Part) (l : LineId) (b : Nat) : Part :=
  let v := openVerdict (p.line l).decoder.bmax (p.flashMin l) b
  let p := p.traceReport l .open b v
  match (p.line l).state with
  | .active => p.openRunActive l v b
  | .converse => p.openRunConverse l v b
  | _ => p

/-- Settlement of a closed run of `m` ms (R30, R36, R46). -/
def Part.settleClosed (p : Part) (l : LineId) (m : Nat) : Part :=
  let p := p.traceReport l .closed m .make
  if (p.line l).state = .active then p.updLine l (fun x => x.withDecoder (fun d => d.settleMake m)) else p

/-- Settlement of the ended run, which is then removed (R23). -/
def Part.settleEnded (p : Part) (l : LineId) : Part :=
  match (p.line l).decoder.ended with
  | none => p
  | some r =>
    let p := p.updLine l (fun x => x.withDecoder (fun d => { d with ended := none }))
    match r.polarity with
    | .open => p.settleOpen l r.duration
    | .closed => p.settleClosed l r.duration

/-- The run in progress becomes confirmed at this sample (R23). -/
def Line.confirms (x : Line) : Bool :=
  (decide (x.state = .active) || decide (x.state = .converse)) && !x.decoder.run.confirmed
    && decide (x.slicer.debounced = x.decoder.run.polarity) && decide (x.slicer.cls.bmin ≤ x.decoder.run.duration)

/-- Confirmation of the run in progress, and the settlement that follows from it (R23). -/
def Part.confirmRun (p : Part) (l : LineId) : Part :=
  (p.updLine l (fun x => x.withDecoder (fun d => { d with run := { d.run with confirmed := true } }))).settleEnded l

/-! ### The digit end (R38) -/

/-- The entry of a convention for a pulse count 1 to 10 (R138). -/
def Part.entry (p : Part) (i : ConventionId) (n : Nat) : Option Symbol :=
  if h : 1 ≤ n ∧ n ≤ 10 then (p.convention i).get ⟨n - 1, by omega⟩ else none

/-- The judgement of a digit at its gap: an error, or a symbol (R38). -/
def Part.judgeDigit (p : Part) (g : Digit) : DigitErrorReason ⊕ Symbol :=
  if g.mutilated then .inl .mutilated
  else if 11 ≤ g.count then .inl .overcount
  else
    match p.entry g.convention g.count with
    | some x => .inr x
    | none => .inl .unmapped

/-- The mean period of a digit, absent without a pair (R39). -/
def Digit.mean (g : Digit) : Option Nat := if g.pairCount = 0 then none else some (g.pairSum / g.pairCount)

/-- The end of a digit at its gap (R38, R39, R40). -/
def Part.endDigit (p : Part) (l : LineId) (g : Digit) : Part :=
  let p := p.dropDigit l
  let p :=
    match p.judgeDigit g with
    | .inl r => p.digitErrorReport l r g
    | .inr x => (p.offerDigit l x g.count g.mean g.convention).updLine l (fun y => { y with flaps := 0 })
  p.startTimer l .partialDial

/-! ### The gap and clear tests -/

/-- The gap test: in ACTIVE, with a digit in progress, the closed run has reached G at a sample at which
the debounced state is CLOSED (R29). -/
def Line.gapDue (x : Line) : Bool :=
  decide (x.state = .active) && x.decoder.digit.isSome && decide (x.slicer.debounced = .closed)
    && decide (x.decoder.run.polarity = .closed) && decide (x.decoder.gapLimit ≤ x.decoder.run.duration)

/-- The gap test fires: GAP trace, then the digit end (R29, R46, R47). -/
def Part.gapTest (p : Part) (l : LineId) : Part :=
  match (p.line l).gapDue, (p.line l).decoder.digit with
  | true, some g => (p.traceReport l .closed (p.line l).decoder.run.duration .gap).endDigit l g
  | _, _ => p

/-- The limit of the clear test: with the snapshot in ACTIVE and CONVERSE (R22, R28), always live in
PARKED (R31). -/
def Part.clearLimit (p : Part) (l : LineId) : Nat :=
  if (p.line l).state = .parked then (p.profileOfLine l).clearTime else p.clearTime l

/-- The clear test: in ACTIVE, CONVERSE or PARKED the open run has reached clear_time at a sample at which
the debounced state is OPEN (R28, R31). -/
def Part.clearDue (p : Part) (l : LineId) : Bool :=
  let x := p.line l
  (decide (x.state = .active) || decide (x.state = .converse) || decide (x.state = .parked))
    && decide (x.slicer.debounced = .open) && decide (x.decoder.run.polarity = .open)
    && decide (p.clearLimit l ≤ x.decoder.run.duration)

/-- The clear test fires: CLEAR trace, then the CLEAR is handed to the supervisor (R28, R46, R47). DESIGN CHOICE:
on a traced line the trace stands ahead of the DIGIT SENT of an abort, of which R109 says the opposite
(assumption log 32, unsafe). -/
def Part.clearTest (p : Part) (l : LineId) : Part :=
  if p.clearDue l then (p.traceReport l .open (p.line l).decoder.run.duration .clear).takeClear l else p

/-! ### The order of one sample's tests (R42) -/

/-- Sets which tests of the line's latest sample are still to be made. -/
def Part.setTests (p : Part) (l : LineId) (t : SampleTests) : Part :=
  p.updLine l (fun x => x.withDecoder (fun d => { d with tests := t }))

/-- The confirmation test of the latest sample, if it has not been made (R23, R42). -/
def Part.confirmationStage (p : Part) (l : LineId) : Part :=
  if (p.line l).decoder.tests = .confirmation then
    if (p.line l).confirms then (p.setTests l .limit).confirmRun l else p.setTests l .limit
  else p

/-- The gap test of the latest sample, if it has not been made (R29, R42). -/
def Part.gapStage (p : Part) (l : LineId) : Part :=
  if (p.line l).decoder.tests = .limit ∧ (p.line l).slicer.debounced = .closed then
    (p.setTests l .made).gapTest l
  else p

/-- The clear test of the latest sample, if it has not been made (R28, R42). -/
def Part.clearStage (p : Part) (l : LineId) : Part :=
  if (p.line l).decoder.tests = .limit ∧ (p.line l).slicer.debounced = .open then
    (p.setTests l .made).clearTest l
  else p

/-- Every test of the latest sample of a line that has not been made yet, in the order of R42. -/
def Part.finishTests (p : Part) (l : LineId) : Part := ((p.confirmationStage l).gapStage l).clearStage l

/-- Every test of every line's latest sample (assumption log 4). -/
def Part.settleSamples (p : Part) : Part := p.forLines (fun l p => p.finishTests l)

/-! ### RELEARN -/

/-- RELEARN on a line that is not DISABLED (R13, R43). -/
def Part.relearn (p : Part) (l : LineId) : Part :=
  let r := p.profileOfLine l
  p.updLine l (fun x =>
    (x.withSlicer (fun s => s.seed r.nominal)).withDecoder (fun d =>
      { d with
        pEst := 16 * r.pNom
        digit := none
        pendingBreak := none
        ended := none
        run := { d.run with confirmed := true } }))

end Sys2Proof.Machine
end

