-- ==== Sys2Proof/Machine/LinkOps.lean ====
section
/-!
DEFINITION. The control links (chapter 08): characters and their assembly (R155 to R160), receive errors
and failure (R162, R171), the audit (R168 to R170), restoration and restart (R173, R174), and transmission
(R166, R167).
-/

namespace Sys2Proof.Machine

/-! ### Starts, failure -/

/-- What every new start of a link does to it: queue and lost count emptied, a new challenge, the audit
timer at its full length, ALIVE (R173, R174). -/
def Link.started (k : Link) (challenge : Half) (period : Nat) : Link :=
  { k with state := .alive, challenge := challenge, auditTimer := some period, queue := [], lost := 0 }

/-- LINK START on its own link (R175). -/
def Part.linkStart (p : Part) (lk : LinkId) (reason : StartReason) : Part :=
  p.report lk (.linkStart reason p.timeBase.resetCause (p.link lk).challenge p.timeBase.state p.scan.state)

/-- Restoration of a FAILED link (R173). -/
def Part.restoreLink (p : Part) (lk : LinkId) : Part :=
  ((p.updLink lk (fun k => k.started p.stamp p.globals.auditPeriod)).linkStart lk .restored).report lk.other
    (.planeStatus lk .alive .failed .restored)

/-- Link restart by a long break (R174). -/
def Part.restartLink (p : Part) (lk : LinkId) : Part :=
  ((p.updLink lk (fun k =>
      { k.started p.stamp p.globals.auditPeriod with assembler := .wait, receiver := .deaf })).linkStart lk .restart).report
    lk.other (.planeStatus lk .alive (p.link lk).state .restart)

/-- A SUSPECT link becomes FAILED (R171). -/
def Part.failLink (p : Part) (lk : LinkId) (cause : PlaneCause) : Part :=
  (p.updLink lk (fun k => { k with state := .failed, auditTimer := none, queue := [], lost := 0 })).report lk.other
    (.planeStatus lk .failed .suspect cause)

/-- A receive error judged on a link: answered with REJECT in ALIVE, the link's failure in SUSPECT, ignored
in FAILED (R162, R171, R172). -/
def Part.receiveError (p : Part) (lk : LinkId) (e : ErrorInfo) : Part :=
  match (p.link lk).state with
  | .alive => p.report lk (.reject e.reason e.kind e.first e.length 0 0)
  | .suspect => p.failLink lk .receiveError
  | .failed => p

/-! ### Audit -/

/-- The audit timer of a link has reached 0 and its expiry has not been taken. -/
def Link.auditExpired (k : Link) : Bool := decide (k.auditTimer = some 0)

/-- The audit timer expires (R170, R171). -/
def Part.auditExpiry (p : Part) (lk : LinkId) : Part :=
  if (p.link lk).auditExpired then
    match (p.link lk).state with
    | .alive =>
      let p := p.updLink lk (fun k => { k with state := .suspect, auditTimer := some p.globals.auditPeriod })
      (p.report lk (.planeStatus lk .suspect .alive .auditExpiry)).report lk.other
        (.planeStatus lk .suspect .alive .auditExpiry)
    | .suspect => p.failLink lk .auditExpiry
    | .failed => p
  else p

/-- PLANE STATUS of a SUSPECT link's return to ALIVE, on both links (R169, R176). -/
def Part.auditReturn (p : Part) (lk : LinkId) (previous : LinkState) : Part :=
  if previous = .suspect then
    (p.report lk (.planeStatus lk .alive .suspect .audit)).report lk.other (.planeStatus lk .alive .suspect .audit)
  else p

/-- AUDIT (R169, R173). -/
def Part.auditCommand (p : Part) (lk : LinkId) (challenge : Half) : Part :=
  match (p.link lk).state with
  | .failed => p.restoreLink lk
  | .alive | .suspect =>
    if challenge = (p.link lk).challenge then
      ((p.updLink lk (fun k =>
        { k with state := .alive, auditTimer := some p.globals.auditPeriod, challenge := challenge + 1 })).auditReturn
          lk (p.link lk).state).report lk (.auditReply (challenge + 1) true)
    else p.report lk (.auditReply (p.link lk).challenge false)

/-! ### Characters -/

/-- What a receive error of a partial message carries (R162). -/
def partialError (reason : RejectReason) (kind : Byte) (chars : List Byte) : Arrival :=
  .error ⟨reason, kind, firstBodyChar chars, 0⟩

/-- The message is complete: its check character has been taken (R157, R158). -/
def messageComplete (chars : List Byte) : Bool := decide (chars.length = (chars.getD 0 0).toNat + 2)

/-- An unmarked character in COLLECT: placed by its position; the length is judged as it arrives, and the
check character completes the message (R158, R159). -/
def Link.collect (lk : LinkId) (k : Link) (kind : Byte) (chars : List Byte) (data : Byte) : Link :=
  if chars = [] ∧ 40 < data.toNat then
    { k with assembler := .skip, waiting := some (.error ⟨.length, kind, none, data⟩) }
  else if messageComplete (chars ++ [data]) then
    { k with assembler := .wait, waiting := some (judgeMessage lk kind (chars ++ [data])) }
  else { k with assembler := .collect kind (chars ++ [data]) 0 }

/-- A character with its stop bit at marking (R158). -/
def Link.takeWhole (lk : LinkId) (k : Link) (data : Byte) (marked : Bool) : Link :=
  match marked, k.assembler with
  | true, .collect kind chars _ =>
    { k with assembler := .collect data [] 0, waiting := some (partialError .framing kind chars) }
  | true, .wait => { k with assembler := .collect data [] 0 }
  | true, .skip => { k with assembler := .collect data [] 0 }
  | false, .collect kind chars _ => k.collect lk kind chars data
  | false, .wait => k
  | false, .skip => k

/-- A character with a missing stop bit: discarded, and the end of a message in COLLECT (R155, R158). -/
def Link.takeBroken (k : Link) : Link :=
  match k.assembler with
  | .collect kind chars _ => { k with assembler := .wait, waiting := some (partialError .framing kind chars) }
  | .wait | .skip => k

/-- The receiver samples the stop-bit position of a character (R155). With every position at spacing it
measures a break, from the leading edge (R156). While it measures one, or is deaf, it takes no character, and a
first position at marking is no start bit (assumption logs 3 and 14). -/
def Link.takeCharacter (lk : LinkId) (k : Link) (v : Vector WireLevel 10) (stop : WireLevel) (edgeTicks : Fin 3) : Link :=
  match k.receiver with
  | .breaking _ => k
  | .deaf => k
  | .listening =>
    if v.get 0 = .marking then k
    else if stop = .marking then k.takeWhole lk (dataOf v) (markOf v)
    else if v = Vector.replicate 10 .spacing then { k with receiver := .breaking edgeTicks.val }
    else k.takeBroken

/-! ### Gap timer and breaks -/

/-- The gap timer of a link in COLLECT has reached its 11th tick (R159). In a break it does not run: the
message is kept for what the break's end does to it (R156, assumption log 24). -/
def Link.gapExpired (k : Link) : Bool :=
  match k.receiver, k.assembler with
  | .breaking _, _ => false
  | _, .collect _ _ n => decide (11 ≤ n)
  | _, .wait => false
  | _, .skip => false

/-- The gap timer expires: receive error TIMEOUT (R158, R159). -/
def Part.gapTimerExpiry (p : Part) (lk : LinkId) : Part :=
  match (p.link lk).gapExpired, (p.link lk).assembler with
  | true, .collect kind chars _ =>
    (p.updLink lk (fun k => { k with assembler := .wait })).receiveError lk ⟨.timeout, kind, firstBodyChar chars, 0⟩
  | _, _ => p

/-- A break has lasted 20 ms and its restart has not been taken (R156). -/
def Link.breakLong (k : Link) : Bool :=
  match k.receiver with
  | .breaking n => decide (20 ≤ n)
  | .listening | .deaf => false

/-- A long break (R156, R174). -/
def Part.longBreak (p : Part) (lk : LinkId) : Part := if (p.link lk).breakLong then p.restartLink lk else p

/-- The end of a short break: the assembler goes to WAIT, and a message in COLLECT is a receive error
FRAMING (R156, R158). -/
def Part.shortBreak (p : Part) (lk : LinkId) : Part :=
  match (p.link lk).receiver, (p.link lk).assembler with
  | .breaking _, .collect kind chars _ =>
    (p.updLink lk (fun k => { k with receiver := .listening, assembler := .wait })).receiveError lk
      ⟨.framing, kind, firstBodyChar chars, 0⟩
  | .breaking _, _ => p.updLink lk (fun k => { k with receiver := .listening, assembler := .wait })
  | .listening, _ => p
  | .deaf, _ => p

/-- The wire returns to marking after a long break, or after a reset that found it at spacing (R156). -/
def Part.returnToMarking (p : Part) (lk : LinkId) : Part :=
  match (p.link lk).receiver with
  | .deaf => p.updLink lk (fun k => { k with receiver := .listening, assembler := .wait })
  | .listening | .breaking _ => p

/-! ### The link's tick -/

/-- The gap timer counts a tick (R159). -/
def Assembler.tick : Assembler → Assembler
  | .collect kind chars n => .collect kind chars (n + 1)
  | .wait => .wait
  | .skip => .skip

/-- The assembler of a link at a tick: its gap timer counts unless a break is measured (R156, R159, assumption
log 24). -/
def Link.tickAssembler (k : Link) : Assembler :=
  match k.receiver with
  | .breaking _ => k.assembler
  | .listening | .deaf => k.assembler.tick

/-- A break that is being measured counts a tick (R156). -/
def Receiver.tick : Receiver → Receiver
  | .breaking n => .breaking (n + 1)
  | .listening => .listening
  | .deaf => .deaf

/-- Audit timer, gap timer and break count a tick (R156, R159, R168). -/
def Link.tick (k : Link) : Link :=
  { k with auditTimer := k.auditTimer.map (· - 1), assembler := k.tickAssembler, receiver := k.receiver.tick }

/-! ### Transmission -/

/-- The transmitter begins the report at the head, if it is idle, the queue is not empty and the ready line
is asserted (R167). -/
def Link.startSending (k : Link) (ready : Bool) : Link :=
  match k.sending, k.queue, ready with
  | none, r :: rest, true => { k with queue := rest, sending := some r.levels }
  | _, _, _ => k

/-- The transmission is complete: the transmitter is idle, and a LOST report is queued if reports were
dropped and the queue has room (R166). -/
def Link.finishSending (k : Link) (stamp : Half) : Link :=
  match k.sending with
  | none => k
  | some _ =>
    if 0 < k.lost ∧ k.queue.length < 128 then
      { k with sending := none, queue := k.queue ++ [⟨stamp, .lost k.lost⟩], lost := 0 }
    else { k with sending := none }

/-- The transmission of a report on a link is complete, at the present line time (R166). -/
def Part.finishTransmission (p : Part) (lk : LinkId) : Part := p.updLink lk (fun k => k.finishSending p.stamp)

end Sys2Proof.Machine
end

