-- ==== Sys2Proof/Machine/SettingsOps.lean ====
section
/-!
DEFINITION. The profile block (chapter 07): clamping of written records (R137, R139, R141), the clamped
indication (R140 to R142, 10.3), and the record a READ SETTINGS names (R144).
-/

namespace Sys2Proof.Machine

/-- A value brought into the range from `least` to `most`. -/
def clampTo (least most n : Nat) : Nat := if n < least then least else if most < n then most else n

/-- The convention field of a profile record: a value above 3 becomes 3 (R137). -/
def clampConvention (b : Byte) : ConventionId :=
  if h : b.toNat < 4 then ⟨b.toNat, h⟩ else 3

/-- The record stored for a written profile record, field by field in the order of R136 (R137). -/
def clampProfile (r : RawProfile) : Profile :=
  let flashMin := clampTo 170 600 r.flashMin.toNat
  let tOn := clampTo 30 250 r.tOn.toNat
  { pNom := clampTo 55 160 r.pNom.toNat
    nominal := clampTo 8 127 r.nominal.toNat
    seizeTime := clampTo 20 200 r.seizeTime.toNat
    flashMin := flashMin
    clearTime := clampTo (flashMin + 50) 2000 r.clearTime.toNat
    firstDigitTime := clampTo 5 60 r.firstDigitTime.toNat
    partialTime := clampTo 5 60 r.partialTime.toNat
    settleTime := clampTo 1 60 r.settleTime.toNat
    flapLimit := clampTo 2 15 r.flapLimit.toNat
    convention := clampConvention r.convention
    seizeGate := gateOf r.seizeGate
    tOn := tOn
    tOff := clampTo 30 250 r.tOff.toNat
    commit := clampTo 10 tOn r.commit.toNat
    aL := clampTo 0 32767 r.aL.toNat
    aH := clampTo 0 32767 r.aH.toNat }

/-- A mask with bit n set where the n-th truth value is true (10.3). -/
def maskOf : List Bool → Nat
  | [] => 0
  | b :: bs => (if b then 1 else 0) + 2 * maskOf bs

/-- Which fields of a written profile record were changed, in the order of R136. -/
def profileChanges (r : RawProfile) : List Bool :=
  let s := clampProfile r
  [ s.pNom != r.pNom.toNat, s.nominal != r.nominal.toNat, s.seizeTime != r.seizeTime.toNat
  , s.flashMin != r.flashMin.toNat, s.clearTime != r.clearTime.toNat, s.firstDigitTime != r.firstDigitTime.toNat
  , s.partialTime != r.partialTime.toNat, s.settleTime != r.settleTime.toNat, s.flapLimit != r.flapLimit.toNat
  , s.convention.val != r.convention.toNat, s.seizeGate.code != r.seizeGate, s.tOn != r.tOn.toNat
  , s.tOff != r.tOff.toNat, s.commit != r.commit.toNat, s.aL != r.aL.toNat, s.aH != r.aH.toNat ]

/-- The record stored for ten written entry codes (R141). -/
def storedConvention (es : Vector Byte 10) : Convention := Vector.ofFn (fun i => entryOf (es.get i))

/-- Which entries were stored as NONE in place of an unknown code (R141). -/
def conventionChanges (es : Vector Byte 10) : List Bool := es.toList.map entryUnknown

/-- The record stored for a written globals record: clamped, audit_period then rounded down to a multiple
of 250 (R139). -/
def clampGlobals (r : RawGlobals) : Globals :=
  { auditPeriod := clampTo 250 8000 r.auditPeriod.toNat / 250 * 250
    runLimit := clampTo 1 16 r.runLimit.toNat
    lineCap := clampTo 1 32 r.lineCap.toNat }

/-- Which globals were changed by clamping or rounding, in the order of R139. -/
def globalsChanges (r : RawGlobals) : List Bool :=
  let s := clampGlobals r
  [s.auditPeriod != r.auditPeriod.toNat, s.runLimit != r.runLimit.toNat, s.lineCap != r.lineCap.toNat]

/-- The record that a record kind and an index name; none where the command is answered REJECT RANGE
(R144, R161, R191). -/
def Part.namedSettings (p : Part) (kind index : Byte) : Option Settings :=
  if kind = 1 then (profileOf index).map (fun i => .profile i (p.profile i))
  else if kind = 2 then (conventionOf index).map (fun i => .convention i (p.convention i))
  else if kind = 3 then some (.globals p.globals)
  else none

end Sys2Proof.Machine
end

