-- ==== Sys2Proof/Machine/CommandOps.lean ====
section
/-!
DEFINITION. What each of the twenty commands of a plane does to the part (R161, R162): the index checks,
the state check of the owning block, the effect, the reports, and the answer. A well-formed command other
than AUDIT on a FAILED link is ignored (R172).
-/

namespace Sys2Proof.Machine

/-- A command is taken on a link that is not FAILED (R161, R172). -/
def Part.onLink (p : Part) (lk : LinkId) (f : Part → Part) : Part :=
  match (p.link lk).state with
  | .failed => p
  | .alive | .suspect => f p

/-- A command that names a line: REJECT RANGE for an index above 47 (R161). -/
def Part.lineCommand (p : Part) (lk : LinkId) (kind line : Byte) (f : LineId → Part → Part) : Part :=
  p.onLink lk (fun p =>
    match lineOf line with
    | none => p.reject lk .range kind line
    | some l => f l p)

/-- A command that names a line and a profile (R161). -/
def Part.lineProfileCommand (p : Part) (lk : LinkId) (kind line profile : Byte)
    (f : LineId → ProfileId → Part → Part) : Part :=
  p.onLink lk (fun p =>
    match lineOf line, profileOf profile with
    | some l, some i => f l i p
    | _, _ => p.reject lk .range kind line)

/-- A line command is taken in the states its rule lists, and answered REJECT STATE in any other (R65). -/
def Part.inStates (p : Part) (lk : LinkId) (kind line : Byte) (l : LineId) (states : List LineState)
    (f : Part → Part) : Part :=
  if (p.line l).state ∈ states then f p else p.reject lk .state kind line

/-- Every state but DISABLED. -/
def enabledStates : List LineState := [.idle, .seizing, .active, .converse, .parked, .quarantine]

/-! ### Line supervisor -/

/-- What ENABLE sets in the line record (R12, R20, R66). -/
def Line.enabled (x : Line) (i : ProfileId) (r : Profile) : Line :=
  { x with
    profile := i
    slicer := x.slicer.enable r.nominal
    decoder := { x.decoder with pEst := 16 * r.pNom, ended := none, pendingBreak := none, digit := none }
    gate := .shut
    digitIndex := 0
    flaps := 0
    pulseDialled := false
    callStart := none }

/-- ENABLE (R66). -/
def Part.enableCommand (p : Part) (lk : LinkId) (line profile : Byte) : Part :=
  p.lineProfileCommand lk 0x02 line profile (fun l i p =>
    p.inStates lk 0x02 line l [.disabled] (fun p =>
      (((p.updLine l (fun x => x.enabled i (p.profile i))).enterWithTimer l .idle).lineStateReport l .disabled .enable
        (some lk) 0).ack lk 0x02 (some line) 0))

/-- Frees the line's trace slot, if it holds one (R45). -/
def Part.freeTrace (p : Part) (l : LineId) : Part :=
  match (p.line l).trace with
  | none => p
  | some i => (p.setTraceSlot i none).updLine l (fun x => { x with trace := none })

/-- DISABLE (R67). -/
def Part.disableCommand (p : Part) (lk : LinkId) (line : Byte) : Part :=
  p.lineCommand lk 0x03 line (fun l p =>
    p.inStates lk 0x03 line l enabledStates (fun p =>
      ((p.freeTrace l).leaveFor l .disabled .disable (some lk)).ack lk 0x03 (some line) 0))

/-- The sender pool is told of a gate change in ACTIVE (R60, R97). -/
def Part.gateChanged (p : Part) (l : LineId) : Part :=
  if (p.line l).state = .active then
    match (p.line l).gate with
    | .open => p.judge l
    | .shut => p.leaveGrantQueue l
  else p

/-- Stores a gate value, with LINE STATE if it changes (R68). -/
def Part.setGate (p : Part) (lk : LinkId) (l : LineId) (g : Gate) (cause : LineCause) : Part :=
  if (p.line l).gate = g then p
  else
    ((p.updLine l (fun x => { x with gate := g })).lineStateReport l (p.line l).state cause (some lk) 0).gateChanged l

/-- OPEN GATE (R68). -/
def Part.openGateCommand (p : Part) (lk : LinkId) (line : Byte) : Part :=
  p.lineCommand lk 0x05 line (fun l p =>
    p.inStates lk 0x05 line l [.active, .converse] (fun p =>
      (p.setGate lk l .open .openGate).ack lk 0x05 (some line) 0))

/-- SHUT GATE (R68). -/
def Part.shutGateCommand (p : Part) (lk : LinkId) (line : Byte) : Part :=
  p.lineCommand lk 0x06 line (fun l p =>
    p.inStates lk 0x06 line l [.active, .converse] (fun p =>
      (p.setGate lk l .shut .shutGate).ack lk 0x06 (some line) 0))

/-- CONVERSE (R69). -/
def Part.converseCommand (p : Part) (lk : LinkId) (line : Byte) : Part :=
  p.lineCommand lk 0x07 line (fun l p =>
    p.inStates lk 0x07 line l [.active] (fun p =>
      (p.leaveFor l .converse .converse (some lk)).ack lk 0x07 (some line) 0))

/-- RESUME (R70). -/
def Part.resumeCommand (p : Part) (lk : LinkId) (line : Byte) : Part :=
  p.lineCommand lk 0x08 line (fun l p =>
    p.inStates lk 0x08 line l [.converse] (fun p =>
      (((((p.updLine l (fun x => { x with pulseDialled := false })).enterWithTimer l .active).lineStateReport l .converse
        .resume (some lk) 0).judge l).ack lk 0x08 (some line) 0)))

/-- PARK (R71). -/
def Part.parkCommand (p : Part) (lk : LinkId) (line : Byte) : Part :=
  p.lineCommand lk 0x09 line (fun l p =>
    p.inStates lk 0x09 line l [.active, .converse] (fun p =>
      (p.leaveFor l .parked .park (some lk)).ack lk 0x09 (some line) 0))

/-- The state that RESTORE enters (R72): IDLE by an open loop, the entry of a seizure by a closed one. -/
def Part.restoreEntry (p : Part) (l : LineId) : Part :=
  match (p.line l).slicer.debounced with
  | .open => p.enterWithTimer l .idle
  | .closed => p.seize l

/-- RESTORE (R72). -/
def Part.restoreCommand (p : Part) (lk : LinkId) (line : Byte) : Part :=
  p.lineCommand lk 0x0A line (fun l p =>
    p.inStates lk 0x0A line l [.parked, .quarantine] (fun p =>
      (((((p.updLine l (fun x => { x with timer := none, flaps := 0 })).restoreEntry l).lineStateReport l (p.line l).state
        .restored (some lk) 0).judge l).ack lk 0x0A (some line) 0)))

/-- QUERY LINE (R73). -/
def Part.queryLineCommand (p : Part) (lk : LinkId) (line : Byte) : Part :=
  p.lineCommand lk 0x10 line (fun l p =>
    p.report lk (.lineReply l (p.line l) (p.grantQueue.contains l)))

/-! ### Pulse decoder -/

/-- RELEARN (R43). -/
def Part.relearnCommand (p : Part) (lk : LinkId) (line : Byte) : Part :=
  p.lineCommand lk 0x0D line (fun l p =>
    p.inStates lk 0x0D line l enabledStates (fun p => (p.relearn l).ack lk 0x0D (some line) 0))

/-- The lower-numbered free trace slot (R44). -/
def Part.freeSlot (p : Part) : Option SlotId :=
  if p.traceSlot 0 = none then some 0 else if p.traceSlot 1 = none then some 1 else none

/-- TRACE ON (R44). -/
def Part.traceOnCommand (p : Part) (lk : LinkId) (line : Byte) : Part :=
  p.lineCommand lk 0x0E line (fun l p =>
    p.inStates lk 0x0E line l enabledStates (fun p =>
      match (p.line l).trace, p.freeSlot with
      | some _, _ => p.ack lk 0x0E (some line) 0
      | none, some i =>
        ((p.setTraceSlot i (some l)).updLine l (fun x => { x with trace := some i })).ack lk 0x0E (some line) 0
      | none, none => p.reject lk .busy 0x0E line))

/-- TRACE OFF (R45). -/
def Part.traceOffCommand (p : Part) (lk : LinkId) (line : Byte) : Part :=
  p.lineCommand lk 0x0F line (fun l p => (p.freeTrace l).ack lk 0x0F (some line) 0)

/-! ### Digit store -/

/-- WITHDRAW: steps 3, 4 and 5 of R59 while the line stays ACTIVE (R88). -/
def Part.withdraw (p : Part) (lk : LinkId) (l : LineId) : Part :=
  let p := p.giveUpSender l
  (p.flush l).lineStateReport l .active .withdraw (some lk) (p.line l).queue.length

/-- WITHDRAW (R88). -/
def Part.withdrawCommand (p : Part) (lk : LinkId) (line : Byte) : Part :=
  p.lineCommand lk 0x0B line (fun l p =>
    p.inStates lk 0x0B line l [.active] (fun p => (p.withdraw lk l).ack lk 0x0B (some line) 0))

/-- The first and the last digit index of an INJECT as the detail of its ACK (R91, 10.3). -/
def indexDetail (first last : Nat) : Half := twoChars (lowChar first) (lowChar last)

/-- An INJECT whose list holds 1 to 16 symbols: NO_ROOM, or all of it enqueued (R90, R91). -/
def Part.injectSymbols (p : Part) (lk : LinkId) (line : Byte) (l : LineId) (xs : List Symbol) : Part :=
  if p.room l < xs.length ∨ p.free < xs.length then
    p.report lk (.reject .noRoom 0x0C (some line) 0 p.free (p.room l))
  else
    let q := p.injectAll lk l xs
    q.ack lk 0x0C (some line) (indexDetail (nextIndex (p.line l).digitIndex) (q.line l).digitIndex)

/-- INJECT, judged in the order of R90. -/
def Part.injectCommand (p : Part) (lk : LinkId) (line : Byte) (symbols : List Byte) : Part :=
  p.lineCommand lk 0x0C line (fun l p =>
    p.inStates lk 0x0C line l [.active] (fun p =>
      match symbolsOf symbols with
      | none => p.reject lk .range 0x0C line
      | some xs =>
        if xs.length < 1 ∨ 16 < xs.length then p.reject lk .range 0x0C line
        else p.injectSymbols lk line l xs))

/-! ### Profile block -/

/-- SET PROFILE (R145). DESIGN CHOICE: of the line and the profile that it names, the ACK echoes the line (R162,
assumption log 33, unsafe). -/
def Part.setProfileCommand (p : Part) (lk : LinkId) (line profile : Byte) : Part :=
  p.lineProfileCommand lk 0x04 line profile (fun l i p =>
    p.inStates lk 0x04 line l enabledStates (fun p =>
      let q := p.updLine l (fun x => { x with profile := i })
      (if (p.line l).profile = i then q
        else q.reportBoth (.lineProfileWritten l (p.line l).profile i lk)).ack lk 0x04 (some line) 0))

/-- WRITE PROFILE (R140). -/
def Part.writeProfileCommand (p : Part) (lk : LinkId) (profile : Byte) (r : RawProfile) : Part :=
  p.onLink lk (fun p =>
    match profileOf profile with
    | none => p.reject lk .range 0x11 profile
    | some i =>
      ((p.setProfile i (clampProfile r)).reportBoth (.settingsWritten (.profile i (clampProfile r)) lk)).ack lk 0x11
        (some profile) (BitVec.ofNat 16 (maskOf (profileChanges r))))

/-- WRITE CONVENTION (R141). -/
def Part.writeConventionCommand (p : Part) (lk : LinkId) (convention : Byte) (es : Vector Byte 10) : Part :=
  p.onLink lk (fun p =>
    match conventionOf convention with
    | none => p.reject lk .range 0x12 convention
    | some i =>
      ((p.setConvention i (storedConvention es)).reportBoth (.settingsWritten (.convention i (storedConvention es)) lk)).ack
        lk 0x12 (some convention) (BitVec.ofNat 16 (maskOf (conventionChanges es))))

/-- WRITE GLOBALS (R142). -/
def Part.writeGlobalsCommand (p : Part) (lk : LinkId) (r : RawGlobals) : Part :=
  p.onLink lk (fun p =>
    (({ p with globals := clampGlobals r } : Part).reportBoth (.settingsWritten (.globals (clampGlobals r)) lk)).ack lk 0x13
      none (BitVec.ofNat 16 (maskOf (globalsChanges r))))

/-- READ SETTINGS (R144, R191). -/
def Part.readSettingsCommand (p : Part) (lk : LinkId) (kind index : Byte) : Part :=
  p.onLink lk (fun p =>
    match p.namedSettings kind index with
    | none => p.reject lk .range 0x14 kind
    | some r => p.report lk (.profileReply r))

/-! ### Taking a command by its name -/

/-- What a well-formed command does when it is taken; nothing for a row that no plane sends. -/
def Part.takeCommand (p : Part) (c : Instr) : Part :=
  match c with
  | .audit lk ch => p.auditCommand lk ch
  | .enable lk l i => p.enableCommand lk l i
  | .disable lk l => p.disableCommand lk l
  | .setProfile lk l i => p.setProfileCommand lk l i
  | .openGate lk l => p.openGateCommand lk l
  | .shutGate lk l => p.shutGateCommand lk l
  | .converse lk l => p.converseCommand lk l
  | .resume lk l => p.resumeCommand lk l
  | .park lk l => p.parkCommand lk l
  | .restore lk l => p.restoreCommand lk l
  | .withdraw lk l => p.withdrawCommand lk l
  | .inject lk l xs => p.injectCommand lk l xs
  | .relearn lk l => p.relearnCommand lk l
  | .traceOn lk l => p.traceOnCommand lk l
  | .traceOff lk l => p.traceOffCommand lk l
  | .queryLine lk l => p.queryLineCommand lk l
  | .writeProfile lk i r => p.writeProfileCommand lk i r
  | .writeConvention lk i es => p.writeConventionCommand lk i es
  | .writeGlobals lk r => p.writeGlobalsCommand lk r
  | .readSettings lk k i => p.readSettingsCommand lk k i
  | _ => p

end Sys2Proof.Machine
end

