-- ==== Sys2Proof/Machine/ScanPort.lean ====
section
/-!
DEFINITION. The scan port controller (chapter 01): the scan frame and its judgement (R2, R3), the handing
of samples (R8 to R12), the loss of the scan (R4) and its restoration (R6), and the strobe (R1).
-/

namespace Sys2Proof.Machine

/-! ### One sample at one line -/

/-- The first sample after ENABLE: the debounced state is set directly, a confirmed run starts, and a
CLOSED first state takes an IDLE line to SEIZING (R12, R20, R51). -/
def Part.firstSample (p : Part) (l : LineId) (c : Nat) (t : LineTime) : Part :=
  let st := (p.line l).slicer.direct c
  let p := (p.updLine l (fun x => x.withSlicer (fun s => s.takeDirect c))).startRun l st t
  match (p.line l).state, st with
  | .idle, .closed => p.startSeizing l
  | _, _ => p

/-- The sample time of the first sample of a candidate run of `n` samples that ends at `t` (R9, R10). -/
def backDate (t : LineTime) (n : Nat) : LineTime := t - BitVec.ofNat 32 (n - 1)

/-- A debounced sample: debounce and tracking, the end of the run with the transition it completes, the
count of the sample, and the supervisor's part. The decoder's tests are then due (R8, R9, R11, R21, R42). -/
def Part.debouncedSample (p : Part) (l : LineId) (c : Nat) (t : LineTime) : Part :=
  let s := (p.line l).slicer
  let p := p.updLine l (fun x => x.withSlicer (fun s => s.take c))
  if s.completes c then
    let new := s.debounced.flip
    (((p.endRun l new (backDate t (s.candidate + 1))).accumulate l t).superviseTransition l new).setTests l .confirmation
  else (p.accumulate l t).setTests l .confirmation

/-- A sample handed to a line's slicer; a DISABLED line takes none (R7). -/
def Part.handSample (p : Part) (l : LineId) (c : Nat) (t : LineTime) : Part :=
  if (p.line l).state = .disabled then p
  else if (p.line l).slicer.awaitingFirst then p.firstSample l c t
  else p.debouncedSample l c t

/-- The restoring frame's sample at one line (R6). -/
def Part.restoreSample (p : Part) (l : LineId) (c : Nat) (t : LineTime) : Part :=
  if (p.line l).state = .disabled then p
  else if (p.line l).slicer.awaitingFirst then p.firstSample l c t
  else
    let before := (p.line l).slicer.debounced
    let st := (p.line l).slicer.direct c
    let p := (p.updLine l (fun x => x.withSlicer (fun s => s.takeDirect c))).startRun l st t
    if st = before then p else p.superviseTransition l st

/-! ### Misses and losses -/

/-- Hands every enabled line its held sample (R2, R3). -/
def Part.handHeld (p : Part) (t : LineTime) : Part :=
  p.forLines (fun l p => p.handSample l (p.scan.held.get l).toNat t)

/-- The loss of the scan at one line: a digit in progress ends with DIGIT ERROR, reason SCAN, and the
supervision timer restarts as PARTIAL, to be held (R4). -/
def Part.loseLine (p : Part) (l : LineId) : Part :=
  match (p.line l).state, (p.line l).decoder.digit with
  | .disabled, _ => p
  | _, none => p
  | _, some g => ((p.dropDigit l).digitErrorReport l .scan g).startTimer l .partialDial

/-- The eighth consecutive miss (R4). DESIGN CHOICE: a timer that stands at 0, its expiry not taken, is left to expire
unless the loss restarts it (assumption log 35, unsafe). -/
def Part.loseScan (p : Part) : Part :=
  (({ p with scan := { p.scan with state := .lost, misses := 8 } } : Part).reportBoth (.scan .lost)).forLines
    (fun l p => p.loseLine l)

/-- A miss for the period opened at `t` (R3, R5). -/
def Part.scanMiss (p : Part) (t : LineTime) : Part :=
  match p.scan.state with
  | .lost => p
  | .running =>
    if p.scan.misses + 1 < 8 then
      ({ p with scan := { p.scan with misses := p.scan.misses + 1 } } : Part).handHeld t
    else p.loseScan

/-! ### Frames -/

/-- The frame is good: every sample byte has its top bit clear and the 8-bit sum of all bytes is 0 (R2). -/
def frameGood (bs : List Byte) : Bool :=
  (bs.take 48).all (fun b => decide (b.toNat < 128)) && decide (sumOf bs = 0)

/-- The held samples that a good frame brings (R2). -/
def heldOf (bs : List Byte) : Vector Byte 48 := Vector.ofFn (fun i => bs.getD i.val 0)

/-- A good frame in LOST restores the scan (R6). DESIGN CHOICE: SCAN (RESTORED) stands ahead of the LINE STATE
that a re-seeded line causes at the same frame (assumption log 29, unsafe). -/
def Part.restoreScan (p : Part) (t : LineTime) : Part :=
  (p.reportBoth (.scan .running)).forLines (fun l p => p.restoreSample l (p.scan.held.get l).toNat t)

/-- A frame is judged at its 49th byte (R2, R3, R6). -/
def Part.judgeFrame (p : Part) (bs : List Byte) (t : LineTime) : Part :=
  if frameGood bs then
    let q := { p with scan := { p.scan with state := .running, misses := 0, held := heldOf bs } }
    match p.scan.state with
    | .running => q.handHeld t
    | .lost => q.restoreScan t
  else p.scanMiss t

/-- Bytes from the line shelf: they join the period's frame up to the 49th, which is judged; bytes after
it, and bytes before the first strobe, are discarded (R1, R2, assumption log 8). DESIGN CHOICE: every byte that a row
brings after the strobe is one of the new frame; late bytes of the frame before are not told apart (R1,
assumption log 38, unsafe). -/
def Part.takeScanBytes (p : Part) (bs : List Byte) : Part :=
  match p.scan.period with
  | none => p
  | some t =>
    let all := (p.scan.received ++ bs).take 49
    let q := { p with scan := { p.scan with received := all } }
    if p.scan.received.length < 49 ∧ all.length = 49 then q.judgeFrame all t else q

/-- The strobe of the tick of line time `now`: an incomplete frame of the period that ends is a miss, and
a new period opens (R1, R3). -/
def Part.strobe (p : Part) (now : LineTime) : Part :=
  let q :=
    match p.scan.period with
    | none => p
    | some t => if p.scan.received.length < 49 then p.scanMiss t else p
  { q with scan := { q.scan with period := some now, received := [] } }

end Sys2Proof.Machine
end

