-- ==== Sys2Proof/Machine/Arrivals.lean ====
section
/-!
DEFINITION. When consequences are taken. The table gives rows of their own to things that follow from
earlier rows. Each such consequence waits in the state; its row takes it, and a row that may not come
before it takes it first:
a sample's tests (R41, R42), a judged message (R160) and the LOCKING timeout (R183) come before any other
row (`settleUrgent`); timer expiries, class reviews and long breaks come before the next tick (R49)
(`settleExpiries`); the ends of burst phases come before the next frame (R124) (`settlePhases`).
Assumption logs 3 to 6.
-/

namespace Sys2Proof.Machine

/-! ### Judged messages -/

/-- Forgets a link's waiting message. -/
def Part.dropWaiting (p : Part) (lk : LinkId) : Part := p.updLink lk (fun k => { k with waiting := none })

/-- Takes a link's waiting message, if it has one: a receive error is judged, a command is carried out
(R160, R161). -/
def Part.takeWaiting (p : Part) (lk : LinkId) : Part :=
  match (p.link lk).waiting with
  | none => p
  | some (.error e) => (p.dropWaiting lk).receiveError lk e
  | some (.command c) => (p.dropWaiting lk).takeCommand c

/-- Takes a link's waiting message if it is a receive error (R160). -/
def Part.takeWaitingError (p : Part) (lk : LinkId) : Part :=
  match (p.link lk).waiting with
  | some (.error e) => (p.dropWaiting lk).receiveError lk e
  | some (.command _) => p
  | none => p

/-! ### The LOCKING timeout -/

/-- Sets the state of the time base. -/
def Part.setTimeBase (p : Part) (f : TimeBase → TimeBase) : Part := { p with timeBase := f p.timeBase }

/-- The tick of line time 250 was given while the state was LOCKING: the time base enters FALLBACK and
keeps its run count (R183, R186). DESIGN CHOICE: CLOCK stands behind the reports of that tick's strobe and
ahead of its expiries (assumption log 37, unsafe). -/
def Part.lockingTimeout (p : Part) : Part :=
  if p.timeBase.lockingDue then
    let q := p.setTimeBase (fun t => { t with lockingDue := false })
    if p.timeBase.state = .locking then
      (q.setTimeBase (fun t => { t with state := .fallback })).reportBoth (.clock .fallback .locking 0 p.grantQueue.length)
    else q
  else p

/-! ### What may not wait -/

/-- Takes what must come before any other row. DESIGN CHOICE: so the tests of a held sample come before a phase end
or a command of its tick (R80, R106, R111, assumption log 36, unsafe). -/
def Part.settleUrgent (p : Part) : Part := ((p.settleSamples.lockingTimeout).takeWaiting .a).takeWaiting .b

/-- A plane's command comes to the part on link `lk`. What may not wait is taken first; where the message
that waits on `lk` is this very command, this row is its taking (assumption log 6). -/
def Part.arrive (p : Part) (lk : LinkId) (c : Instr) : Part :=
  let q := p.settleSamples.lockingTimeout.takeWaiting lk.other
  if (q.link lk).waiting = some (.command c) then q.dropWaiting lk else q.takeWaiting lk

/-- Every timer expiry of a line that is due. -/
def Part.expireLine (p : Part) (l : LineId) : Part :=
  ((((p.restExpiry l).seizeExpiry l).firstDigitExpiry l).partialExpiry l).settleExpiry l

/-- Every expiry and long break of a link that is due. -/
def Part.expireLink (p : Part) (lk : LinkId) : Part := ((p.longBreak lk).gapTimerExpiry lk).auditExpiry lk

/-- Takes what must come before the next tick: class review, lines, link A, link B (assumption log 5). -/
def Part.settleExpiries (p : Part) : Part :=
  ((p.classReview.forLines (fun l p => p.expireLine l)).expireLink .a).expireLink .b

/-- Takes what must come before the next frame: the ends of burst phases that are due. -/
def Part.settlePhases (p : Part) : Part := p.forSenders (fun k p => (p.onPhaseEnd k).toneOffEnd k)

end Sys2Proof.Machine
end

