-- ==== Sys2Proof/Machine/Tones.lean ====
section
/-!
DEFINITION. Tone synthesis (chapter 06): the symbol grid (R115), phase increments (R116), the sine table
(R118, R119), and the sample with its truncation and clamp (R120, R121).
-/

namespace Sys2Proof.Machine

/-- The phase increments of the low tones 697, 770, 852 and 941 Hz (R116). -/
def lowIncrements : Vector Half 4 := #v[5710, 6308, 6980, 7709]

/-- The phase increments of the high tones 1209, 1336, 1477 and 1633 Hz (R116). -/
def highIncrements : Vector Half 4 := #v[9904, 10945, 12100, 13378]

/-- Row and column of each symbol in the grid, by symbol code (R115). -/
def grid : Vector (Fin 4 × Fin 4) 16 :=
  #v[(3, 1), (0, 0), (0, 1), (0, 2), (1, 0), (1, 1), (1, 2), (2, 0)
    , (2, 1), (2, 2), (3, 0), (3, 2), (0, 3), (1, 3), (2, 3), (3, 3)]

/-- The increment of a symbol's low tone. -/
def lowIncrement (x : Symbol) : Half := lowIncrements.get (grid.get x).1

/-- The increment of a symbol's high tone. -/
def highIncrement (x : Symbol) : Half := highIncrements.get (grid.get x).2

/-- Entries 0 to 64 of the sine table: 8191 times the sine of 2 pi k / 256, to the nearest integer
(R119). -/
def quarterSine : List Nat :=
  [0, 201, 402, 603, 803, 1003, 1202, 1400, 1598, 1795, 1990, 2185, 2378,
   2569, 2759, 2948, 3135, 3319, 3502, 3683, 3861, 4037, 4211, 4382, 4551, 4716,
   4879, 5039, 5196, 5350, 5501, 5648, 5792, 5932, 6069, 6202, 6332, 6457, 6579,
   6697, 6811, 6920, 7026, 7127, 7224, 7316, 7405, 7488, 7567, 7642, 7712, 7778,
   7838, 7894, 7946, 7992, 8034, 8070, 8102, 8129, 8152, 8169, 8181, 8189, 8191]

/-- Entry k of the sine table, from the quarter by the symmetries of R119. -/
def sineEntry (k : Nat) : Int :=
  if k ≤ 64 then Int.ofNat (quarterSine.getD k 0)
  else if k ≤ 128 then Int.ofNat (quarterSine.getD (128 - k) 0)
  else if k ≤ 192 then -Int.ofNat (quarterSine.getD (k - 128) 0)
  else -Int.ofNat (quarterSine.getD (256 - k) 0)

/-- The table index of a phase: the phase divided by 256, rounded down (R118). -/
def tableIndex (phase : Half) : Nat := phase.toNat / 256

/-- The full sum of a frame (R120). -/
def toneSum (aL aH : Nat) (low high : Half) : Int :=
  Int.ofNat aL * sineEntry (tableIndex low) + Int.ofNat aH * sineEntry (tableIndex high)

/-- The clamp of R121. -/
def clampSample (q : Int) : Int := if 32767 < q then 32767 else if q < -32767 then -32767 else q

/-- The sample of a frame: the sum divided by 8192, truncated toward zero, and clamped (R120, R121). -/
def toneSample (aL aH : Nat) (low high : Half) : Int := clampSample ((toneSum aL aH low high).tdiv 8192)

/-- The sample a sender hands to the path switch for a frame (R124): its tone in TONE_ON, 0 in TONE_OFF. -/
def Sender.sample (x : Sender) : Half :=
  match x.state, x.captured, x.phases with
  | .toneOn, some c, some (low, high) => BitVec.ofInt 16 (toneSample c.aL c.aH low high)
  | _, _, _ => 0

/-- The phase accumulators advanced by the increments of the symbol, modulo 65536 (R117). -/
def advancePhases (x : Option Symbol) (ph : Option (Half × Half)) : Option (Half × Half) :=
  match x, ph with
  | some x, some (low, high) => some (low + lowIncrement x, high + highIncrement x)
  | _, _ => ph

/-- A sender takes a frame: it advances its accumulators and counts the frame (R124). A FREE sender takes
none. -/
def Sender.takeFrame (x : Sender) : Sender :=
  match x.state with
  | .free => x
  | .toneOn => { x with phases := advancePhases x.symbol x.phases, elapsed := x.elapsed + 1 }
  | .toneOff => { x with elapsed := x.elapsed + 1 }

end Sys2Proof.Machine
end

