-- ==== Sys2Proof/Machine/TimeOps.lean ====
section
/-!
DEFINITION. The time base (chapter 09) and the path switch (chapter 06): the millisecond tick (R178), the
highway frame (R125 to R131, R179, R182), the entry to LOCKED (R185), and the loss of the frame clock
(R180, R184).
-/

namespace Sys2Proof.Machine

/-! ### The tick -/

/-- A running supervision timer falls by one (R49). -/
def Timer.tick (t : Timer) : Timer := { t with remaining := t.remaining - 1 }

/-- The line's supervision timer counts a tick. -/
def Line.tick (x : Line) : Line := { x with timer := x.timer.map Timer.tick }

/-- Supervision timers count while the scan is RUNNING and are held while it is LOST (R4, R49). -/
def Part.tickLines (p : Part) : Part :=
  match p.scan.state with
  | .running => { p with lines := Vector.ofFn (fun l => (p.lines.get l).tick) }
  | .lost => p

/-- Line time rises by one; a class review falls due where line time modulo 256 is 0 (R14), and the
LOCKING timeout at 250 (R183). -/
def TimeBase.tick (t : TimeBase) : TimeBase :=
  { t with
    lineTime := t.lineTime + 1
    reviewDue := decide ((t.lineTime + 1).toNat % 256 = 0)
    lockingDue := decide (t.state = .locking) && decide (t.lineTime + 1 = 250) }

/-- The millisecond tick, with nothing overdue: line time, every timer that counts it, and the scan strobe
(R1, R178). DESIGN CHOICE: a held sample of its strobe, and that sample's tests, come before the expiries and
the review of the same tick, an order that R41 leaves open (assumption log 30, unsafe); a loss of the scan by its
strobe comes before them too (R4, R14, assumption log 35, unsafe). -/
def Part.tickCore (p : Part) : Part :=
  let q := (p.setTimeBase TimeBase.tick).tickLines
  (((q.updLink .a Link.tick).updLink .b Link.tick).strobe (p.timeBase.lineTime + 1))

/-- The millisecond tick: what is overdue is taken before it. -/
def Part.tick (p : Part) : Part := p.settleExpiries.tickCore

/-! ### Loss of the frame clock (R113, R184) -/

/-- The abort of one sender at the loss: its line joins the grant queue if it is eligible (R113). -/
def Part.abortForLoss (p : Part) (k : SenderId) : Part :=
  match (p.sender k).state, (p.sender k).line with
  | .free, _ => p
  | _, some l => (p.abortOnly l).judge l
  | _, none => p.setSender k Sender.freed

/-- How many senders are not FREE. -/
def Part.busySenders (p : Part) : Nat :=
  (allSenders.filter (fun k => decide ((p.sender k).state ≠ .free))).length

/-- The time base leaves LOCKED for FALLBACK (R184, R186). DESIGN CHOICE: the strobe of the entry's tick, with the
reports of a miss, comes before the aborts, and the tests of the samples it hands come after the CLOCK report
(assumption log 31, unsafe). -/
def Part.loseClock (p : Part) : Part :=
  let p := p.settlePhases.settleExpiries
  let p := (p.setTimeBase (fun t => { t with state := .fallback, divider := 0, runCount := 0 })).tickCore
  let aborted := p.busySenders
  let p := p.forSenders (fun k p => p.abortForLoss k)
  p.reportBoth (.clock .fallback .locked aborted p.grantQueue.length)

/-- The frame watchdog expires (R180). It has not timed 1 ms where no oscillator mark has come since it was started: a
frame taken first starts it afresh, and it does not expire (assumption log 27). -/
def Part.watchdogExpiry (p : Part) : Part :=
  match p.timeBase.watchdog, p.timeBase.state with
  | none, _ | some 0, _ => p
  | some (_ + 1), .locked => (p.setTimeBase (fun t => { t with watchdog := none })).loseClock
  | some (_ + 1), _ => p.setTimeBase (fun t => { t with watchdog := none, runCount := 0 })

/-- An oscillator mark at the frame watchdog: the second mark since it was started finds its expiry
overdue (R180, assumption log 27). -/
def Part.markWatchdog (p : Part) : Part :=
  match p.timeBase.watchdog with
  | none => p
  | some 0 => p.setTimeBase (fun t => { t with watchdog := some 1 })
  | some (_ + 1) => p.watchdogExpiry

/-- One oscillator millisecond: it times the watchdog, and gives a tick in LOCKING and FALLBACK (R181). What
an overdue expiry leaves waiting is taken before that tick. -/
def Part.oscillatorMark (p : Part) : Part :=
  let p := p.markWatchdog.settleUrgent
  match p.timeBase.state with
  | .locked => p
  | .locking | .fallback => p.tick

/-! ### The path switch (R127 to R131) -/

/-- Path modes (6.8). -/
inductive PathMode where
  | pass
  | mute
  | tone (sender : SenderId)
  deriving DecidableEq, Repr

/-- The path mode of a line, from its situation (R128). -/
def Line.pathMode (x : Line) : PathMode :=
  match x.sender with
  | some k => .tone k
  | none =>
    match x.state with
    | .disabled | .idle | .seizing | .converse => .pass
    | .parked | .quarantine => .mute
    | .active => if x.pulseDialled then .mute else .pass

/-- The content of a line's outgoing slot (R129, R130, R131). -/
def Part.lineSlot (p : Part) (l : LineId) (incoming : Half) : Half :=
  match (p.line l).pathMode with
  | .pass => incoming
  | .mute => 0
  | .tone k => (p.sender k).sample

/-- The content of an outgoing slot: slots 48 to 63 are copied (R127). -/
def Part.outSlot (p : Part) (slots : List Half) (n : Nat) : Half :=
  if h : n < 48 then p.lineSlot ⟨n, h⟩ (slots.getD n 0) else slots.getD n 0

/-- The outgoing frame chosen at an incoming frame (R126). -/
def Part.outFrame (p : Part) (slots : List Half) : List Half := (List.range 64).map (p.outSlot slots)

/-! ### Frames and the time base (R179, R182, R185) -/

/-- Every sender that is not FREE takes the frame (R124, R125). -/
def Part.sendersTakeFrame (p : Part) : Part :=
  { p with senders := Vector.ofFn (fun k => (p.senders.get k).takeFrame) }

/-- The time base enters LOCKED: CLOCK, then the grant test (R114, R182, R185, R186). -/
def Part.enterLocked (p : Part) : Part :=
  let q := p.setTimeBase (fun t => { t with state := .locked, divider := 0, runCount := 0 })
  (q.reportBoth (.clock .locked p.timeBase.state 0 p.grantQueue.length)).grantTest

/-- This frame gives a tick: the eighth in LOCKED (R179). -/
def TimeBase.frameTicks (t : TimeBase) : Bool := decide (t.state = .locked) && decide (7 ≤ t.divider)

/-- The time base counts a frame taken (R179, R180, R182). DESIGN CHOICE: the held samples of its tick's strobe come
before the phase ends that the frame brings about (R80, R106, R111, assumption log 36, unsafe). -/
def Part.countFrame (p : Part) : Part :=
  let q := p.setTimeBase (fun t => { t with watchdog := some 0 })
  match p.timeBase.state with
  | .locked =>
    if p.timeBase.frameTicks then (q.setTimeBase (fun t => { t with divider := 0 })).tickCore
    else q.setTimeBase (fun t => { t with divider := t.divider + 1 })
  | .locking | .fallback =>
    if 128 ≤ p.timeBase.runCount + 1 then q.enterLocked
    else q.setTimeBase (fun t => { t with runCount := t.runCount + 1 })

/-- What is taken before a frame: what may not wait, the phase ends that are due, and what is overdue if
the frame gives a tick. -/
def Part.beforeFrame (p : Part) : Part :=
  let q := p.settleUrgent.settlePhases
  if q.timeBase.frameTicks then q.settleExpiries else q

/-- A frame taken, after its outgoing frame has been chosen (R125). -/
def Part.takeFrame (p : Part) : Part := p.sendersTakeFrame.countFrame

/-! ### Reset (R187, R188) -/

/-- A part reset begins: the cause is recorded and reports being sent are cut off (R187, R188). -/
def Part.beginReset (p : Part) (cause : ResetCause) : Part :=
  ((p.setTimeBase (fun t => { t with resetCause := cause })).updLink .a (fun k => { k with sending := none })).updLink .b
    (fun k => { k with sending := none })

/-- The part is held in reset (R187). -/
def Hold.held (h : Hold) : Bool := h.supply || h.input

/-- A row acts on the part unless the part is held in reset, when it takes nothing (R187, assumption log
17). -/
def State.onPart (s : State) (f : Part → Part) : State :=
  if s.hold.held then s else { s with part := f s.part }

end Sys2Proof.Machine
end

