-- ==== Sys2Proof/Machine/LineRows.lean ====
section
/-!
DEFINITION. The rows of the lines: samples and their tests (chapters 01 and 02), class reviews (R15), and timer
expiries (chapter 03). A row that is not due leaves its line as it is (assumption log 3).
-/

namespace Sys2Proof.Machine

/-- SCAN_FRAME: bytes of a scan frame, judged at the 49th (R2). -/
def execScanFrame (bytes : List Byte) (s : State) : Host.Outcome State Fault Refusal :=
  .next (s.onPart (fun p => p.settleUrgent.takeScanBytes bytes))

/-- CLASS_REVIEW: the review of every enabled line (R14, R15). -/
def execClassReview (s : State) : Host.Outcome State Fault Refusal :=
  .next (s.onPart (fun p => p.settleUrgent.classReview))

/-- RUN_CONFIRMATION: the confirmation test of the line's latest sample (R23). -/
def execRunConfirmation (line : LineId) (s : State) : Host.Outcome State Fault Refusal :=
  .next (s.onPart (fun p => p.confirmationStage line))

/-- GAP: the gap test of the line's latest sample, after its confirmation test (R29). -/
def execGap (line : LineId) (s : State) : Host.Outcome State Fault Refusal :=
  .next (s.onPart (fun p => (p.confirmationStage line).gapStage line))

/-- CLEAR: the clear test of the line's latest sample, after its confirmation test (R28, R31). -/
def execClear (line : LineId) (s : State) : Host.Outcome State Fault Refusal :=
  .next (s.onPart (fun p => (p.confirmationStage line).clearStage line))

/-- REST_EXPIRY (R51). -/
def execRestExpiry (line : LineId) (s : State) : Host.Outcome State Fault Refusal :=
  .next (s.onPart (fun p => p.settleUrgent.restExpiry line))

/-- SEIZE_EXPIRY (R53). -/
def execSeizeExpiry (line : LineId) (s : State) : Host.Outcome State Fault Refusal :=
  .next (s.onPart (fun p => p.settleUrgent.seizeExpiry line))

/-- FIRST_DIGIT_EXPIRY (R56). -/
def execFirstDigitExpiry (line : LineId) (s : State) : Host.Outcome State Fault Refusal :=
  .next (s.onPart (fun p => p.settleUrgent.firstDigitExpiry line))

/-- PARTIAL_EXPIRY (R56). -/
def execPartialExpiry (line : LineId) (s : State) : Host.Outcome State Fault Refusal :=
  .next (s.onPart (fun p => p.settleUrgent.partialExpiry line))

/-- SETTLE_EXPIRY (R64). -/
def execSettleExpiry (line : LineId) (s : State) : Host.Outcome State Fault Refusal :=
  .next (s.onPart (fun p => p.settleUrgent.settleExpiry line))

end Sys2Proof.Machine
end

