-- ==== Sys2Proof/Machine/LinkRows.lean ====
section
/-!
DEFINITION. The rows of the control links that are no plane's command (chapter 08).
-/

namespace Sys2Proof.Machine

/-- RECEIVE_ERROR: the receive error that waits on the link is judged (R160, R162, R171). -/
def execReceiveError (link : LinkId) (s : State) : Host.Outcome State Fault Refusal :=
  .next (s.onPart (fun p => (p.settleSamples.lockingTimeout.takeWaiting link.other).takeWaitingError link))

/-- GAP_TIMER_EXPIRY (R159). -/
def execGapTimerExpiry (link : LinkId) (s : State) : Host.Outcome State Fault Refusal :=
  .next (s.onPart (fun p => p.settleUrgent.gapTimerExpiry link))

/-- SHORT_BREAK: a break ends. One that has lasted 20 ms was a long break, whose restart is taken first (R156). -/
def execShortBreak (link : LinkId) (s : State) : Host.Outcome State Fault Refusal :=
  .next (s.onPart (fun p => ((p.settleUrgent.longBreak link).shortBreak link)))

/-- LONG_BREAK: a break reaches 20 ms (R156, R174). -/
def execLongBreak (link : LinkId) (s : State) : Host.Outcome State Fault Refusal :=
  .next (s.onPart (fun p => p.settleUrgent.longBreak link))

/-- AUDIT_TIMER_EXPIRY (R170, R171). -/
def execAuditTimerExpiry (link : LinkId) (s : State) : Host.Outcome State Fault Refusal :=
  .next (s.onPart (fun p => p.settleUrgent.auditExpiry link))

/-- REPORT_TRANSMISSION_START, with the plane's ready line as read at this moment (R167). -/
def execReportTransmissionStart (link : LinkId) (ready : Bool) (s : State) : Host.Outcome State Fault Refusal :=
  .next (s.onPart (fun p => p.settleUrgent.updLink link (fun k => k.startSending ready)))

/-- REPORT_TRANSMISSION_COMPLETE (R166). -/
def execReportTransmissionComplete (link : LinkId) (s : State) : Host.Outcome State Fault Refusal :=
  .next (s.onPart (fun p => p.settleUrgent.finishTransmission link))

/-- CHARACTER_TAKEN: the 11 positions sampled on the receive wire (R155, R158), and the ticks since the leading
edge of the start bit (R156). -/
def execCharacterTaken (link : LinkId) (positions : Vector WireLevel 10) (stop : WireLevel) (edgeTicks : Fin 3) (s : State) :
    Host.Outcome State Fault Refusal :=
  .next (s.onPart (fun p => p.settleUrgent.updLink link (fun k => k.takeCharacter link positions stop edgeTicks)))

/-- RETURN_TO_MARKING: the wire returns to marking after a long break or a reset. A break that has lasted 20 ms is
taken first (R156). -/
def execReturnToMarking (link : LinkId) (s : State) : Host.Outcome State Fault Refusal :=
  .next (s.onPart (fun p => ((p.settleUrgent.longBreak link).returnToMarking link)))

end Sys2Proof.Machine
end

