-- ==== Sys2Proof/Machine/PlaneRows.lean ====
section
/-!
DEFINITION. The twenty commands of a plane as rows: each arrives on a link and is taken (R161).
-/

namespace Sys2Proof.Machine

/-- AUDIT: accepted, not accepted, or the restoration of a FAILED link (R169, R173). -/
def execAudit (link : LinkId) (challenge : Half) (s : State) : Host.Outcome State Fault Refusal :=
  .next (s.onPart (fun p => (p.arrive link (.audit link challenge)).auditCommand link challenge))

/-- ENABLE (R66). -/
def execEnable (link : LinkId) (line : Byte) (profile : Byte) (s : State) : Host.Outcome State Fault Refusal :=
  .next (s.onPart (fun p => (p.arrive link (.enable link line profile)).enableCommand link line profile))

/-- DISABLE (R67). -/
def execDisable (link : LinkId) (line : Byte) (s : State) : Host.Outcome State Fault Refusal :=
  .next (s.onPart (fun p => (p.arrive link (.disable link line)).disableCommand link line))

/-- SET PROFILE (R145). -/
def execSetProfile (link : LinkId) (line : Byte) (profile : Byte) (s : State) : Host.Outcome State Fault Refusal :=
  .next (s.onPart (fun p => (p.arrive link (.setProfile link line profile)).setProfileCommand link line profile))

/-- OPEN GATE (R68). -/
def execOpenGate (link : LinkId) (line : Byte) (s : State) : Host.Outcome State Fault Refusal :=
  .next (s.onPart (fun p => (p.arrive link (.openGate link line)).openGateCommand link line))

/-- SHUT GATE (R68). -/
def execShutGate (link : LinkId) (line : Byte) (s : State) : Host.Outcome State Fault Refusal :=
  .next (s.onPart (fun p => (p.arrive link (.shutGate link line)).shutGateCommand link line))

/-- CONVERSE (R69). -/
def execConverse (link : LinkId) (line : Byte) (s : State) : Host.Outcome State Fault Refusal :=
  .next (s.onPart (fun p => (p.arrive link (.converse link line)).converseCommand link line))

/-- RESUME (R70). -/
def execResume (link : LinkId) (line : Byte) (s : State) : Host.Outcome State Fault Refusal :=
  .next (s.onPart (fun p => (p.arrive link (.resume link line)).resumeCommand link line))

/-- PARK (R71). -/
def execPark (link : LinkId) (line : Byte) (s : State) : Host.Outcome State Fault Refusal :=
  .next (s.onPart (fun p => (p.arrive link (.park link line)).parkCommand link line))

/-- RESTORE (R72). -/
def execRestore (link : LinkId) (line : Byte) (s : State) : Host.Outcome State Fault Refusal :=
  .next (s.onPart (fun p => (p.arrive link (.restore link line)).restoreCommand link line))

/-- WITHDRAW (R88). -/
def execWithdraw (link : LinkId) (line : Byte) (s : State) : Host.Outcome State Fault Refusal :=
  .next (s.onPart (fun p => (p.arrive link (.withdraw link line)).withdrawCommand link line))

/-- INJECT (R90, R91). -/
def execInject (link : LinkId) (line : Byte) (symbols : List Byte) (s : State) : Host.Outcome State Fault Refusal :=
  .next (s.onPart (fun p => (p.arrive link (.inject link line symbols)).injectCommand link line symbols))

/-- RELEARN (R43). -/
def execRelearn (link : LinkId) (line : Byte) (s : State) : Host.Outcome State Fault Refusal :=
  .next (s.onPart (fun p => (p.arrive link (.relearn link line)).relearnCommand link line))

/-- TRACE ON (R44). -/
def execTraceOn (link : LinkId) (line : Byte) (s : State) : Host.Outcome State Fault Refusal :=
  .next (s.onPart (fun p => (p.arrive link (.traceOn link line)).traceOnCommand link line))

/-- TRACE OFF (R45). -/
def execTraceOff (link : LinkId) (line : Byte) (s : State) : Host.Outcome State Fault Refusal :=
  .next (s.onPart (fun p => (p.arrive link (.traceOff link line)).traceOffCommand link line))

/-- QUERY LINE (R73). -/
def execQueryLine (link : LinkId) (line : Byte) (s : State) : Host.Outcome State Fault Refusal :=
  .next (s.onPart (fun p => (p.arrive link (.queryLine link line)).queryLineCommand link line))

/-- WRITE PROFILE (R140). -/
def execWriteProfile (link : LinkId) (profile : Byte) (record : RawProfile) (s : State) : Host.Outcome State Fault Refusal :=
  .next (s.onPart (fun p => (p.arrive link (.writeProfile link profile record)).writeProfileCommand link profile record))

/-- WRITE CONVENTION (R141). -/
def execWriteConvention (link : LinkId) (convention : Byte) (entries : Vector Byte 10) (s : State) : Host.Outcome State Fault Refusal :=
  .next (s.onPart (fun p => (p.arrive link (.writeConvention link convention entries)).writeConventionCommand link convention entries))

/-- WRITE GLOBALS (R142). -/
def execWriteGlobals (link : LinkId) (record : RawGlobals) (s : State) : Host.Outcome State Fault Refusal :=
  .next (s.onPart (fun p => (p.arrive link (.writeGlobals link record)).writeGlobalsCommand link record))

/-- READ SETTINGS (R144). -/
def execReadSettings (link : LinkId) (kind : Byte) (index : Byte) (s : State) : Host.Outcome State Fault Refusal :=
  .next (s.onPart (fun p => (p.arrive link (.readSettings link kind index)).readSettingsCommand link kind index))

end Sys2Proof.Machine
end

