-- ==== Sys2Proof/Machine/TimeBaseRows.lean ====
section
/-!
DEFINITION. The rows of the time base, the sample highways, the senders and reset (chapters 05, 06 and 09).
-/

namespace Sys2Proof.Machine

/-- OSCILLATOR_MILLISECOND: a mark of the internal oscillator (R181). Held in reset it gives no tick. -/
def execOscillatorMillisecond (s : State) : Host.Outcome State Fault Refusal :=
  .next (s.onPart (fun p => p.settleUrgent.oscillatorMark))

/-- A highway frame of 64 slots taken by a working part: the outgoing frame is chosen from each line's
situation, then senders and time base take the frame (R125, R126). DESIGN CHOICE: where the frame gives a tick, the slots
are chosen before the events of that tick, the transitions of held samples and the expiries; R132 lets an event and a
frame that fall together come in either order (assumption log 39, unsafe). -/
def State.takeHighwayFrame (s : State) (slots : List Half) : State :=
  let p := s.part.beforeFrame
  { s with outgoing := some (p.outFrame slots), part := p.takeFrame }

/-- A highway frame taken while the part is held in reset: all 64 slots are copied (R134, R187). -/
def State.copyHighwayFrame (s : State) (slots : List Half) : State := { s with outgoing := some slots }

/-- HIGHWAY_FRAME: an incoming frame is taken when its 64th slot has arrived (R125); one that has fewer is
a short frame (R179, assumption log 22). -/
def execHighwayFrame (slots : List Half) (s : State) : Host.Outcome State Fault Refusal :=
  .next (if slots.length < 64 then s.onPart Part.settleUrgent
    else if s.hold.held then s.copyHighwayFrame (slots.take 64)
    else s.takeHighwayFrame (slots.take 64))

/-- SHORT_FRAME: not taken by senders, path switch or time base (R179). -/
def execShortFrame (s : State) : Host.Outcome State Fault Refusal := .next (s.onPart Part.settleUrgent)

/-- ON_PHASE_END (R101, R102). DESIGN CHOICE: the tests of a held sample of its tick come first (assumption log 36,
unsafe). -/
def execOnPhaseEnd (sender : SenderId) (s : State) : Host.Outcome State Fault Refusal :=
  .next (s.onPart (fun p => p.settleUrgent.onPhaseEnd sender))

/-- TONE_OFF_END (R104, R105). DESIGN CHOICE: the tests of a held sample of its tick come first (assumption log 36,
unsafe). -/
def execToneOffEnd (sender : SenderId) (s : State) : Host.Outcome State Fault Refusal :=
  .next (s.onPart (fun p => p.settleUrgent.toneOffEnd sender))

/-- FRAME_WATCHDOG_EXPIRY (R180, R184). -/
def execFrameWatchdogExpiry (s : State) : Host.Outcome State Fault Refusal :=
  .next (s.onPart (fun p => p.settleUrgent.watchdogExpiry))

/-- LOCKING_TIMEOUT (R183). -/
def execLockingTimeout (s : State) : Host.Outcome State Fault Refusal :=
  .next (s.onPart (fun p => p.settleSamples.lockingTimeout))

/-- A cause begins to hold the part: a reset begins unless one is under way, and the record is written at
its beginning alone (R187, R188). -/
def State.beginHold (s : State) (cause : ResetCause) (h : Hold) : State :=
  { s with hold := h, part := if s.hold.held then s.part else s.part.settleUrgent.beginReset cause }

/-- RESET_INPUT: an assertion of the reset input, seen at a sample (R187). -/
def execResetInput (s : State) : Host.Outcome State Fault Refusal :=
  .next (s.beginHold .external { s.hold with input := true })

/-- SUPPLY_LOW: the supply falls below the working level (R187, R188). -/
def execSupplyLow (s : State) : Host.Outcome State Fault Refusal :=
  .next (s.beginHold .lowSupply { s.hold with supply := true })

/-- POWER_ON: supply first applied, or a fall below the retention level. The cause is POWER_ON whatever
held the part before, and the part keeps none of its state: what its blocks hold is a free value (R188,
assumption log 16), but for the transmit wires, which are at marking while the part is held (R187). -/
def execPowerOn (s : State) : Host.Outcome State Fault Refusal :=
  .next { s with
    hold := { s.hold with supply := true }
    outgoing := none
    draws := s.draws + 1
    part := (Config.lostPart s.draws).beginReset .powerOn }

/-- PART_RESET_END: no cause holds the part any longer, and every block is set to its part-reset state
(R187, R189). The operands are the levels of the two receive wires at that moment (R156). -/
def execPartResetEnd (rxdA rxdB : WireLevel) (s : State) : Host.Outcome State Fault Refusal :=
  .next (if s.hold.held then
      { s with hold := ⟨false, false⟩, part := Part.atReset s.part.timeBase.resetCause rxdA rxdB }
    else s.onPart Part.settleUrgent)

end Sys2Proof.Machine
end

