-- ==== Sys2Proof/Machine/Dispatch.lean ====
section
/-!
DEFINITION. exec: one arm for each row of spec/opcode_table.json, each one call of the row's meaning.
-/

namespace Sys2Proof.Machine

def exec (i : Instr) (s : State) : Host.Outcome State Fault Refusal :=
  match i with
  | .oscillatorMillisecond => Sys2Proof.Machine.execOscillatorMillisecond s
  | .scanFrame bytes => Sys2Proof.Machine.execScanFrame bytes s
  | .classReview => Sys2Proof.Machine.execClassReview s
  | .runConfirmation line => Sys2Proof.Machine.execRunConfirmation line s
  | .gap line => Sys2Proof.Machine.execGap line s
  | .clear line => Sys2Proof.Machine.execClear line s
  | .restExpiry line => Sys2Proof.Machine.execRestExpiry line s
  | .seizeExpiry line => Sys2Proof.Machine.execSeizeExpiry line s
  | .firstDigitExpiry line => Sys2Proof.Machine.execFirstDigitExpiry line s
  | .partialExpiry line => Sys2Proof.Machine.execPartialExpiry line s
  | .settleExpiry line => Sys2Proof.Machine.execSettleExpiry line s
  | .highwayFrame slots => Sys2Proof.Machine.execHighwayFrame slots s
  | .shortFrame => Sys2Proof.Machine.execShortFrame s
  | .onPhaseEnd sender => Sys2Proof.Machine.execOnPhaseEnd sender s
  | .toneOffEnd sender => Sys2Proof.Machine.execToneOffEnd sender s
  | .frameWatchdogExpiry => Sys2Proof.Machine.execFrameWatchdogExpiry s
  | .lockingTimeout => Sys2Proof.Machine.execLockingTimeout s
  | .resetInput => Sys2Proof.Machine.execResetInput s
  | .powerOn => Sys2Proof.Machine.execPowerOn s
  | .supplyLow => Sys2Proof.Machine.execSupplyLow s
  | .partResetEnd rxdA rxdB => Sys2Proof.Machine.execPartResetEnd rxdA rxdB s
  | .audit link challenge => Sys2Proof.Machine.execAudit link challenge s
  | .enable link line profile => Sys2Proof.Machine.execEnable link line profile s
  | .disable link line => Sys2Proof.Machine.execDisable link line s
  | .setProfile link line profile => Sys2Proof.Machine.execSetProfile link line profile s
  | .openGate link line => Sys2Proof.Machine.execOpenGate link line s
  | .shutGate link line => Sys2Proof.Machine.execShutGate link line s
  | .converse link line => Sys2Proof.Machine.execConverse link line s
  | .resume link line => Sys2Proof.Machine.execResume link line s
  | .park link line => Sys2Proof.Machine.execPark link line s
  | .restore link line => Sys2Proof.Machine.execRestore link line s
  | .withdraw link line => Sys2Proof.Machine.execWithdraw link line s
  | .inject link line symbols => Sys2Proof.Machine.execInject link line symbols s
  | .relearn link line => Sys2Proof.Machine.execRelearn link line s
  | .traceOn link line => Sys2Proof.Machine.execTraceOn link line s
  | .traceOff link line => Sys2Proof.Machine.execTraceOff link line s
  | .queryLine link line => Sys2Proof.Machine.execQueryLine link line s
  | .writeProfile link profile record => Sys2Proof.Machine.execWriteProfile link profile record s
  | .writeConvention link convention entries => Sys2Proof.Machine.execWriteConvention link convention entries s
  | .writeGlobals link record => Sys2Proof.Machine.execWriteGlobals link record s
  | .readSettings link kind index => Sys2Proof.Machine.execReadSettings link kind index s
  | .receiveError link => Sys2Proof.Machine.execReceiveError link s
  | .gapTimerExpiry link => Sys2Proof.Machine.execGapTimerExpiry link s
  | .shortBreak link => Sys2Proof.Machine.execShortBreak link s
  | .longBreak link => Sys2Proof.Machine.execLongBreak link s
  | .auditTimerExpiry link => Sys2Proof.Machine.execAuditTimerExpiry link s
  | .reportTransmissionStart link ready => Sys2Proof.Machine.execReportTransmissionStart link ready s
  | .reportTransmissionComplete link => Sys2Proof.Machine.execReportTransmissionComplete link s
  | .characterTaken link positions stop edgeTicks => Sys2Proof.Machine.execCharacterTaken link positions stop edgeTicks s
  | .returnToMarking link => Sys2Proof.Machine.execReturnToMarking link s

end Sys2Proof.Machine
end

