-- ==== Sys2Proof/Safety.lean ====
section
/-!
DEFINITION. What counts as a good state, in the terms the claims use: a part with nothing waiting
(`settled`, `current`), and what every step keeps (the `...Kept` predicates). No meaning uses them.
-/

namespace Sys2Proof.Machine

/-! ### Nothing waits -/

/-- Nothing that must come before any other row waits (assumption logs 4 and 6). -/
abbrev Part.settled (p : Part) : Prop :=
  (∀ l, (p.line l).decoder.tests = .made) ∧ p.timeBase.lockingDue = false ∧ p.linkA.waiting = none
    ∧ p.linkB.waiting = none

/-- No expiry of a link and no long break waits to be taken. -/
abbrev Link.current (k : Link) : Prop :=
  k.auditExpired = false ∧ k.gapExpired = false ∧ k.breakLong = false

/-- Nothing that must come before the next tick waits (assumption log 5). -/
abbrev Part.current (p : Part) : Prop :=
  p.timeBase.reviewDue = false ∧ (∀ l, (p.line l).timer.map Timer.remaining ≠ some 0) ∧ p.linkA.current
    ∧ p.linkB.current

/-- No sender's phase has run its course without its end having been taken (assumption log 5). -/
abbrev Part.phasesCurrent (p : Part) : Prop :=
  ∀ k, (p.sender k).onPhaseDone = false ∧ (p.sender k).offPhaseDone = false

/-- The part works, and nothing waits that must come before any row. -/
abbrev State.ready (s : State) : Prop := s.hold.held = false ∧ s.part.settled

/-- The state with another part. -/
def State.withPart (s : State) (p : Part) : State := { s with part := p }

/-- A link that is not FAILED takes commands (R172). -/
abbrev Part.takes (p : Part) (lk : LinkId) : Prop := (p.link lk).state ≠ .failed

/-! ### What every step keeps -/

/-- Where a line stands a predicate of the part is claimed of a working part alone: a part held in reset
shows nothing, and its end sets every block anew (R187, R189). -/
abbrev State.working (s : State) (I : Part → Prop) : Prop := s.hold.held = false → I s.part

/-- R11, R136: the levels of every line are in order and in range, and so is what moves them. -/
abbrev Part.levelsKept (p : Part) : Prop :=
  (∀ l, (p.line l).slicer.lo ≤ (p.line l).slicer.lc ∧ (p.line l).slicer.lc ≤ 2032)
    ∧ (∀ l : LineId, (p.scan.held.get l).toNat ≤ 127) ∧ ∀ i, (p.profile i).nominal ≤ 127

/-- R37, R136: every period estimate is in range, and so is what seeds it. -/
abbrev Part.periodsKept (p : Part) : Prop :=
  (∀ l, 880 ≤ (p.line l).decoder.pEst ∧ (p.line l).decoder.pEst ≤ 2560)
    ∧ ∀ i, 55 ≤ (p.profile i).pNom ∧ (p.profile i).pNom ≤ 160

/-- The ranges of a profile record (R136). -/
abbrev Profile.inRange (r : Profile) : Prop :=
  (55 ≤ r.pNom ∧ r.pNom ≤ 160) ∧ (8 ≤ r.nominal ∧ r.nominal ≤ 127) ∧ (20 ≤ r.seizeTime ∧ r.seizeTime ≤ 200)
    ∧ (170 ≤ r.flashMin ∧ r.flashMin ≤ 600) ∧ (r.flashMin + 50 ≤ r.clearTime ∧ r.clearTime ≤ 2000)
    ∧ (5 ≤ r.firstDigitTime ∧ r.firstDigitTime ≤ 60) ∧ (5 ≤ r.partialTime ∧ r.partialTime ≤ 60)
    ∧ (1 ≤ r.settleTime ∧ r.settleTime ≤ 60) ∧ (2 ≤ r.flapLimit ∧ r.flapLimit ≤ 15)
    ∧ (30 ≤ r.tOn ∧ r.tOn ≤ 250) ∧ (30 ≤ r.tOff ∧ r.tOff ≤ 250) ∧ (10 ≤ r.commit ∧ r.commit ≤ r.tOn)
    ∧ r.aL ≤ 32767 ∧ r.aH ≤ 32767

/-- The ranges of the globals (R139). -/
abbrev Globals.inRange (g : Globals) : Prop :=
  (250 ≤ g.auditPeriod ∧ g.auditPeriod ≤ 8000 ∧ g.auditPeriod % 250 = 0) ∧ (1 ≤ g.runLimit ∧ g.runLimit ≤ 16)
    ∧ (1 ≤ g.lineCap ∧ g.lineCap ≤ 32)

/-- R136, R139: every settings record is in range. -/
abbrev Part.settingsKept (p : Part) : Prop := (∀ i, (p.profile i).inRange) ∧ p.globals.inRange

/-- How many cells stand in the queues of all lines. -/
def Part.queued (p : Part) : Nat := (allLines.map (fun l => (p.line l).queue.length)).sum

/-- R74, R76: free cells and queued cells make 256, and no queue holds more than 32. -/
abbrev Part.poolKept (p : Part) : Prop :=
  p.free + p.queued = 256 ∧ (∀ l, (p.line l).queue.length ≤ 32) ∧ p.globals.lineCap ≤ 32

/-- R163, R165, R168, R171 for one link. -/
abbrev Link.kept (k : Link) : Prop :=
  k.queue.length ≤ 128 ∧ k.lost ≤ 65535 ∧ (k.state = .failed ↔ k.auditTimer = none)
    ∧ (k.state = .failed → k.queue = [] ∧ k.lost = 0)

/-- R163, R165, R168, R171: both links. -/
abbrev Part.linksKept (p : Part) : Prop := p.linkA.kept ∧ p.linkB.kept

/-- R59, R96: a line outside ACTIVE has an empty queue, no sender and no place in the grant queue; a line in
the grant queue holds no sender and stands there once; and a SETTLE timer runs in QUARANTINE alone (R49). -/
abbrev Part.supervisionKept (p : Part) : Prop :=
  (∀ l, (p.line l).state ≠ .active → (p.line l).queue = [] ∧ (p.line l).sender = none ∧ l ∉ p.grantQueue)
    ∧ (∀ l ∈ p.grantQueue, (p.line l).sender = none) ∧ p.grantQueue.Nodup
    ∧ ∀ l, (p.line l).timer.map Timer.kind = some .settle → (p.line l).state = .quarantine

/-- R93, R94, R112: lines and senders name each other, a FREE sender holds nothing, and outside LOCKED every
sender is FREE. -/
abbrev Part.sendersKept (p : Part) : Prop :=
  (∀ l k, (p.line l).sender = some k ↔ (p.sender k).line = some l)
    ∧ (∀ k, (p.sender k).state = .free ↔ (p.sender k).line = none)
    ∧ (∀ k, (p.sender k).state = .free → p.sender k = Sender.freed)
    ∧ (p.timeBase.state ≠ .locked → ∀ k, (p.sender k).state = .free)

/-- A predicate of a working part that every step keeps. -/
def KeptByEveryStep (I : Part → Prop) : Prop :=
  ∀ s t : State, s.working I → step s = .next t → t.working I

/-! ### What a rule leaves -/

/-- The decoder context of a line as entry to a state leaves it, with no digit: the ended run removed and the
run in progress confirmed, which entry to DISABLED does not do (R20, R21, R26, R41). -/
def Decoder.cleared (d : Decoder) (st : LineState) : Decoder :=
  { d with
    run := if st = .disabled then d.run else { d.run with confirmed := true }
    ended := none
    pendingBreak := none
    digit := none
    tests := .made }

/-- Steps 1 to 3 of R59: the digit removed, the timer stopped, and the abort of the sender that the line holds. -/
def Part.abandoned (p : Part) (l : LineId) : Part :=
  (p.setLine l { p.line l with
    timer := none
    decoder := { (p.line l).decoder with digit := none, pendingBreak := none } }).abort l

/-- A line that steps 4 to 6 of R59 have taken to another state: no digit, no cell, no place in the grant
queue, and every cell back in the free set. -/
def Part.afterLeaving (p : Part) (l : LineId) (st : LineState) (timer : Option Timer) : Part :=
  { p.setLine l { p.line l with
      state := st
      timer := timer
      queue := []
      decoder := (p.line l).decoder.cleared st } with
    free := p.free + (p.line l).queue.length
    grantQueue := p.grantQueue.filter (fun m => decide (m ≠ l)) }

/-- The supervision timer of a length in whole seconds of a profile, doubled outside CLEAN (R16, R49). -/
def Line.classTimer (x : Line) (kind : TimerKind) (seconds : Nat) : Option Timer :=
  some ⟨kind, seconds * 1000 * (match x.slicer.cls with | .clean => 1 | .damp => 2 | .weak => 2 | .fault => 2)⟩

/-- The record of a line at the entry of a seizure (R53, R72). -/
def Line.seized (x : Line) (r : Profile) (now : LineTime) : Line :=
  { x with
    state := .active
    gate := r.seizeGate
    pulseDialled := false
    digitIndex := 0
    callStart := some now
    timer := x.classTimer .firstDigit r.firstDigitTime
    decoder := { x.decoder with run := { x.decoder.run with confirmed := true }, ended := none, tests := .made } }

/-! ### Runs of rows -/

/-- The outcome of one row after another, as `exec` answers them. -/
def execAll : List Instr → State → Host.Outcome State Fault Refusal
  | [], s => .next s
  | c :: cs, s =>
    match exec c s with
    | .next t => execAll cs t
    | .fault r => .fault r
    | .refused r => .refused r

/-- The rows by which the characters of a message come whole over a link. -/
def charactersOn (lk : LinkId) (m : List WireChar) : List Instr :=
  m.map (fun ch => .characterTaken lk ch.positions .marking 0)

end Sys2Proof.Machine
end

