-- ==== Sys2Proof/Certificates/Slice0/Obligations.lean ====
section
/-!
DEFINITION. The statements for the provers, from the numbered rules of spec/. A docstring names the rules a
statement formalises, and the assumption log where it rests on a choice of the model. `s.ready` says that the part works
and that nothing waits that must be taken before any row; `WaitingConsequencesComeFirst` says what an unready state does.
-/

section
open Sys2Proof Sys2Proof.Machine

/-! ### The queue of rows, and reset -/

/-- The model's choice (assumption log 1): a step runs the front command with the queue's rest, and an empty queue idles.
Every row answers a next state and leaves the queue as it is. -/
def Obligations.StepTakesTheFrontCommand : Prop :=
  (∀ (c : Instr) (rest : List Instr) (s : State), step { s with pending := c :: rest } = exec c { s with pending := rest })
    ∧ (∀ s : State, s.pending = [] → step s = .next s)
    ∧ ∀ (c : Instr) (s : State), ∃ t, exec c s = .next t ∧ t.pending = s.pending

/-- The model's choice (assumption logs 4, 6, 36 and 37), for the consequences of R42, R160 and R183 that the table gives rows of
their own: what waits is taken before the row that comes, after which nothing waits. -/
def Obligations.WaitingConsequencesComeFirst : Prop :=
  (∀ p : Part, p.settleUrgent.settled ∧ (p.settled → p.settleUrgent = p))
  ∧ (∀ (s : State) (c : Instr), s.hold.held = false → commandMessage c = none →
      (∀ l, c ≠ .runConfirmation l ∧ c ≠ .gap l ∧ c ≠ .clear l) → (∀ lk, c ≠ .receiveError lk) → c ≠ .lockingTimeout →
      c ≠ .powerOn → exec c s = exec c (s.withPart s.part.settleUrgent))
  ∧ ∀ (s : State) (c : Instr) (lk : LinkId) (kind : Byte) (body : List Byte), s.hold.held = false →
      commandMessage c = some (lk, kind, body) → (s.part.link lk).waiting ≠ some (.command c) →
      s.part.linkA.waiting = none ∨ s.part.linkB.waiting = none →
      exec c s = exec c (s.withPart s.part.settleUrgent)

/-- The model's choice (assumption logs 3, 14, 17 and 27): a row whose event is not due in a ready state changes nothing. -/
def Obligations.RowsThatAreNotDueChangeNothing : Prop :=
  ∀ (s : State) (c : Instr), s.ready →
    ((∃ l, c = .runConfirmation l ∨ c = .gap l ∨ c = .clear l)
      ∨ (c = .classReview ∧ s.part.timeBase.reviewDue = false)
      ∨ (∃ l k, (k, c) ∈ [(TimerKind.rest, Instr.restExpiry l), (.seize, .seizeExpiry l), (.firstDigit, .firstDigitExpiry l)
          , (.partialDial, .partialExpiry l), (.settle, .settleExpiry l)] ∧ (s.part.line l).timer ≠ some ⟨k, 0⟩)
      ∨ (∃ k x, x = s.part.sender k ∧ ((c = .onPhaseEnd k ∧ x.onPhaseDone = false)
          ∨ (c = .toneOffEnd k ∧ x.offPhaseDone = false)))
      ∨ (c = .frameWatchdogExpiry ∧ (s.part.timeBase.watchdog = none ∨ s.part.timeBase.watchdog = some 0))
      ∨ c = .lockingTimeout
      ∨ (∃ a b, c = .partResetEnd a b)
      ∨ ∃ lk k, k = s.part.link lk ∧
        (c = .receiveError lk ∨ (c = .gapTimerExpiry lk ∧ k.gapExpired = false)
          ∨ (c = .longBreak lk ∧ k.breakLong = false) ∨ (c = .shortBreak lk ∧ (k.receiver = .listening ∨ k.receiver = .deaf))
          ∨ (c = .returnToMarking lk ∧ (k.receiver = .listening ∨ ∃ n < 20, k.receiver = .breaking n))
          ∨ (c = .auditTimerExpiry lk ∧ k.auditTimer ≠ some 0) ∨ (c = .reportTransmissionComplete lk ∧ k.sending = none)
          ∨ ∃ v stop n, c = .characterTaken lk v stop n ∧ (k.receiver ≠ .listening ∨ v.get 0 = .marking))) →
    exec c s = .next s

/-- R189, R156, and the rules that the table of R189 names: what the end of a part reset leaves, field by field. The divider at
0 is the model's choice (assumption log 15). -/
def Obligations.PartResetEndSetsEveryBlock : Prop :=
  ∀ (s : State) (a b : WireLevel) (cause : ResetCause), s.hold.held = true → cause = s.part.timeBase.resetCause →
    ∀ k : WireLevel → Link,
      (∀ w, k w =
        { state := .alive, challenge := 0, auditTimer := some 2000
          queue := [⟨0, .linkStart .partReset cause 0 .locking .running⟩], lost := 0, sending := none
          assembler := .wait, receiver := (match w with | .marking => .listening | .spacing => .deaf)
          waiting := none }) →
      exec (.partResetEnd a b) s = .next { s with
        hold := ⟨false, false⟩
        part :=
          { timeBase :=
              { state := .locking, lineTime := 0, divider := 0, runCount := 0, watchdog := some 0, reviewDue := false
                lockingDue := false, resetCause := cause }
            scan := { state := .running, misses := 0, held := Vector.replicate 48 0, period := none, received := [] }
            lines := Vector.replicate 48
              { slicer :=
                  { lc := 640, lo := 0, debounced := .open, candidate := 0, cls := .clean, faultReviews := 0
                    awaitingFirst := false }
                decoder :=
                  { pEst := 1600, run := { polarity := .open, start := 0, duration := 0, confirmed := true }
                    ended := none, pendingBreak := none, digit := none, tests := .made }
                state := .disabled, gate := .shut, profile := 0, digitIndex := 0, pulseDialled := false
                callStart := none, timer := none, flaps := 0, queue := [], sender := none, runCount := 0, trace := none }
            traceSlots := Vector.replicate 2 none
            free := 256
            grantQueue := []
            senders := Vector.replicate 8
              { state := .free, line := none, symbol := none, elapsed := 0, captured := none, phases := none }
            profiles := Vector.replicate 8
              { pNom := 100, nominal := 40, seizeTime := 60, flashMin := 200, clearTime := 600, firstDigitTime := 15
                partialTime := 20, settleTime := 10, flapLimit := 5, convention := 0, seizeGate := .shut, tOn := 70
                tOff := 70, commit := 40, aL := 4000, aH := 5000 }
            conventions :=
              #v[ Vector.ofFn (fun n => some ⟨(n.val + 1) % 10, by omega⟩), Vector.ofFn (fun n => some ⟨n.val, by omega⟩)
                , Vector.ofFn (fun n => some ⟨9 - n.val, by omega⟩), Vector.ofFn (fun n => some ⟨(n.val + 1) % 10, by omega⟩) ]
            globals := { auditPeriod := 2000, runLimit := 4, lineCap := 32 }
            linkA := k a
            linkB := k b } }

/-- R187, R188, R134: how a reset begins and what a second cause does to the record; a held part takes nothing but what
touches the reset itself, and copies the frames it takes. POWER_ON leaves the part's other state open (assumption
log 16) but for the transmit wires at marking. The model's choice: that a held part's other rows change nothing
(assumption log 17), and that POWER_ON leaves no outgoing frame, of which the spec says nothing (assumption log 19). -/
def Obligations.ResetsRecordTheirCauseAndHold : Prop :=
  ∀ s : State,
    (s.ready → ∀ begun : ResetCause → Part,
      (∀ c, begun c = { s.part with
        timeBase := { s.part.timeBase with resetCause := c }
        linkA := { s.part.linkA with sending := none }
        linkB := { s.part.linkB with sending := none } }) →
      exec .resetInput s = .next { s with hold := ⟨false, true⟩, part := begun .external }
      ∧ exec .supplyLow s = .next { s with hold := ⟨true, false⟩, part := begun .lowSupply })
    ∧ (∃ p : Part, p.timeBase.resetCause = .powerOn ∧ p.linkA.sending = none ∧ p.linkB.sending = none
      ∧ exec .powerOn s = .next { s with
          hold := ⟨true, s.hold.input⟩, outgoing := none, draws := s.draws + 1, part := p })
    ∧ (s.hold.held = true →
      exec .resetInput s = .next { s with hold := ⟨s.hold.supply, true⟩ }
      ∧ exec .supplyLow s = .next { s with hold := ⟨true, s.hold.input⟩ }
      ∧ (∀ slots : List Half, slots.length = 64 → exec (.highwayFrame slots) s = .next { s with outgoing := some slots })
      ∧ ∀ c : Instr, (∀ slots, c = .highwayFrame slots → slots.length < 64) → (∀ a b, c ≠ .partResetEnd a b) →
        c ≠ .resetInput → c ≠ .powerOn → c ≠ .supplyLow → exec c s = .next s)

/-! ### Scan port and slicer -/

/-- R8, R9, R10, R11, R16: one debounced sample at a slicer: threshold, hysteresis, debounce, and tracking with the threshold
before the sample. -/
def Obligations.SlicerTakesASample : Prop :=
  ∀ (x y : Slicer) (c n : Nat) (t h : Int) (against flips : Prop), x.lo ≤ x.lc → y = x.take c →
    t = ((x.lc + x.lo) / 2 : Nat) → h = ((x.lc - x.lo) / 8 : Nat) →
    (against ↔ (x.debounced = .closed ∧ 16 * (c : Int) < t - h) ∨ (x.debounced = .open ∧ t + h < 16 * (c : Int))) →
    (against → n = x.candidate + 1) → (¬ against → n = 0) →
    (flips ↔ against ∧ (match x.cls with | .clean => 4 | .damp => 6 | .weak => 8 | .fault => 8) ≤ n) →
    (flips → y.debounced ≠ x.debounced ∧ y.candidate = 0)
    ∧ (¬ flips → y.debounced = x.debounced ∧ y.candidate = n)
    ∧ (y.debounced = .closed → y.lo = x.lo
        ∧ (t ≤ 16 * (c : Int) → (y.lc : Int) = x.lc + (16 * (c : Int) - x.lc).tdiv 8) ∧ (16 * (c : Int) < t → y.lc = x.lc))
    ∧ (y.debounced = .open → y.lc = x.lc
        ∧ (16 * (c : Int) ≤ t → (y.lo : Int) = x.lo + (16 * (c : Int) - x.lo).tdiv 8) ∧ (t < 16 * (c : Int) → y.lo = x.lo))
    ∧ y.cls = x.cls ∧ y.faultReviews = x.faultReviews ∧ y.awaitingFirst = x.awaitingFirst

/-- R2, R3, R7, R21: a frame judged in RUNNING, good or one of the first seven misses, hands every enabled line's slicer its
received or held sample; a run that goes on counts it; nothing but lines, reports and the scan changes. -/
def Obligations.FramesHandEveryLineItsSample : Prop :=
  ∀ (s : State) (bytes : List Byte) (now : LineTime) (held : Vector Byte 48) (misses : Nat),
    s.ready → s.part.supervisionKept → s.part.scan.state = .running → s.part.scan.period = some now →
    s.part.scan.received = [] → bytes.length = 49 →
    ((∀ l : LineId, (bytes.getD l.val 0).toNat < 128) ∧ (bytes.map BitVec.toNat).sum % 256 = 0
        ∧ misses = 0 ∧ (∀ l : LineId, held.get l = bytes.getD l.val 0)
      ∨ ((∃ l : LineId, 128 ≤ (bytes.getD l.val 0).toNat) ∨ (bytes.map BitVec.toNat).sum % 256 ≠ 0)
        ∧ s.part.scan.misses < 7 ∧ misses = s.part.scan.misses + 1 ∧ held = s.part.scan.held) →
    ∃ t, exec (.scanFrame bytes) s = .next t
      ∧ t.part.scan = { s.part.scan with misses := misses, held := held, received := bytes }
      ∧ t.part.timeBase = s.part.timeBase ∧ t.part.senders = s.part.senders ∧ t.part.free = s.part.free
      ∧ t.part.grantQueue = s.part.grantQueue ∧ t.part.traceSlots = s.part.traceSlots
      ∧ t.part.profiles = s.part.profiles ∧ t.part.conventions = s.part.conventions ∧ t.part.globals = s.part.globals
      ∧ ∀ (l : LineId) (x : Line) (c : Nat), x = s.part.line l → c = (held.get l).toNat →
        (x.state = .disabled → t.part.line l = x)
        ∧ (x.state ≠ .disabled → x.slicer.awaitingFirst = false → (t.part.line l).slicer = x.slicer.take c)
        ∧ (x.state ≠ .disabled → x.slicer.awaitingFirst = false → (x.slicer.take c).debounced = x.slicer.debounced →
          t.part.line l = { x with
            slicer := x.slicer.take c
            decoder := { x.decoder with
              tests := .confirmation
              run := { x.decoder.run with
                duration := if x.decoder.run.duration = 65535 then 65535
                  else min 65535 ((now - x.decoder.run.start).toNat + 1) } } })

/-- R9, R10, R21, R24, R42, R52, R54, R55, R57, R64: what a debounced transition does to the runs of its line, back-dated to
the first sample of the candidate run, and to its state, timer and flaps. -/
def Obligations.TransitionsEndTheRun : Prop :=
  ∀ (s : State) (bytes : List Byte) (now start : LineTime) (l : LineId) (x : Line) (c : Nat) (new : Loop) (flaps : Nat),
    s.ready → s.part.supervisionKept → s.part.scan.state = .running → s.part.scan.period = some now →
    s.part.scan.received = [] → bytes.length = 49 →
    (∀ m : LineId, (bytes.getD m.val 0).toNat < 128) → (bytes.map BitVec.toNat).sum % 256 = 0 →
    x = s.part.line l → x.state ≠ .disabled → x.slicer.awaitingFirst = false → x.slicer.candidate ≤ 8 →
    c = (bytes.getD l.val 0).toNat → new = (x.slicer.take c).debounced → new ≠ x.slicer.debounced →
    start = now - BitVec.ofNat 32 x.slicer.candidate → flaps = min 15 (x.flaps + 1) →
    ∃ t, exec (.scanFrame bytes) s = .next t
      ∧ (t.part.line l).decoder.tests = .confirmation
      ∧ (x.state = .active ∨ x.state = .converse → x.decoder.run.confirmed = true → x.decoder.run.duration < 65535 →
          (t.part.line l).decoder.run = ⟨new, start, x.slicer.candidate + 1, false⟩
          ∧ (t.part.line l).decoder.ended
            = some { x.decoder.run with duration := min 65535 (start - x.decoder.run.start).toNat })
      ∧ (∀ r, x.state = .active ∨ x.state = .converse → x.decoder.run.confirmed = false → x.decoder.ended = some r →
          (t.part.line l).decoder.ended = none
          ∧ (t.part.line l).decoder.run = { r with
              duration := if r.duration = 65535 then 65535 else min 65535 ((now - r.start).toNat + 1) })
      ∧ (x.state ≠ .active → x.state ≠ .converse →
          (t.part.line l).decoder.run = ⟨new, start, x.slicer.candidate + 1, true⟩ ∧ (t.part.line l).decoder.ended = none)
      ∧ (x.state = .active → new = .open → (t.part.line l).pulseDialled = true)
      ∧ (x.state = .idle → new = .closed → (t.part.line l).state = .seizing
          ∧ (t.part.line l).timer
            = some ⟨.seize, (s.part.profileOfLine l).seizeTime - (x.slicer.candidate + 1)⟩)
      ∧ (x.state = .seizing → new = .open → (t.part.line l).flaps = flaps
          ∧ (flaps < (s.part.profileOfLine l).flapLimit →
            (t.part.line l).state = .idle ∧ (t.part.line l).timer = some ⟨.rest, 30000⟩)
          ∧ ((s.part.profileOfLine l).flapLimit ≤ flaps →
            (t.part.line l).state = .quarantine
            ∧ (t.part.line l).timer = some ⟨.settle, (s.part.profileOfLine l).settleTime * 1000⟩))
      ∧ (x.state = .quarantine →
          (t.part.line l).timer = some ⟨.settle, (s.part.profileOfLine l).settleTime * 1000⟩)
      ∧ (x.state ∉ [LineState.idle, .seizing] → (t.part.line l).state = x.state)

/-- R12, R20, R51, R52: the first sample after ENABLE sets the debounced state without debounce, starts a confirmed run, and
takes an IDLE line whose loop is CLOSED to SEIZING. -/
def Obligations.FirstSampleSetsTheLoopDirectly : Prop :=
  ∀ (s : State) (bytes : List Byte) (now : LineTime) (l : LineId) (x : Line) (c : Nat) (st : Loop) (sl : Slicer),
    s.ready → s.part.supervisionKept → s.part.scan.period = some now → s.part.scan.received = [] → bytes.length = 49 →
    (∀ m : LineId, (bytes.getD m.val 0).toNat < 128) → (bytes.map BitVec.toNat).sum % 256 = 0 →
    x = s.part.line l → x.state = .idle → x.slicer.awaitingFirst = true → x.slicer.lo ≤ x.slicer.lc →
    c = (bytes.getD l.val 0).toNat →
    st = (if (x.slicer.lc + x.slicer.lo) / 2 < 16 * c then .closed else .open) →
    sl = { x.slicer with
      debounced := st, candidate := 0, awaitingFirst := false
      lc := if st = .closed then ((x.slicer.lc : Int) + (16 * (c : Int) - x.slicer.lc).tdiv 8).toNat else x.slicer.lc
      lo := if st = .open then ((x.slicer.lo : Int) + (16 * (c : Int) - x.slicer.lo).tdiv 8).toNat else x.slicer.lo } →
    ∃ t, exec (.scanFrame bytes) s = .next t
      ∧ t.part.line l = { x with
          slicer := sl
          decoder := { x.decoder with run := ⟨st, now, 1, true⟩, ended := none, tests := .made }
          state := if st = .closed then .seizing else .idle
          timer := if st = .closed then some ⟨.seize, (s.part.profileOfLine l).seizeTime - 1⟩ else x.timer }

/-- R4, R5: the eighth consecutive miss, and a miss in LOST. The DIGIT ERROR reports stand in ascending line order, which R4
leaves open (assumption log 7). -/
def Obligations.EighthMissLosesTheScan : Prop :=
  ∀ (s : State) (bytes : List Byte) (now : LineTime),
    s.ready → s.part.scan.period = some now → s.part.scan.received = [] → bytes.length = 49 →
    (∃ l : LineId, 128 ≤ (bytes.getD l.val 0).toNat) ∨ (bytes.map BitVec.toNat).sum % 256 ≠ 0 →
    (s.part.scan.state = .running → s.part.scan.misses = 7 →
      exec (.scanFrame bytes) s = .next (s.withPart { (allLines.filterMap (fun l =>
          match (s.part.line l).state, (s.part.line l).decoder.digit with
          | .disabled, _ => none
          | _, none => none
          | _, some g => some (ReportBody.digitError l .scan g.count g.convention))).foldl Part.reportBoth
          (s.part.reportBoth (.scan .lost)) with
        scan := { s.part.scan with state := .lost, misses := 8, received := bytes }
        lines := Vector.ofFn (fun l =>
          if (s.part.line l).state ≠ .disabled ∧ (s.part.line l).decoder.digit ≠ none then
            { s.part.line l with
              timer := (s.part.line l).classTimer .partialDial (s.part.profileOfLine l).partialTime
              decoder := { (s.part.line l).decoder with digit := none, pendingBreak := none } }
          else s.part.line l) }))
    ∧ (s.part.scan.state = .lost → exec (.scanFrame bytes) s
        = .next (s.withPart { s.part with scan := { s.part.scan with received := bytes } }))

/-- R1, R3, R4, R5: a frame that is incomplete at the next strobe is a miss: one of the first seven hands the held samples,
the eighth loses the scan, and a miss in LOST changes nothing. -/
def Obligations.IncompleteFramesAreMisses : Prop :=
  ∀ (s : State) (u : LineTime), s.ready → s.part.current → s.part.supervisionKept → s.part.timeBase.state ≠ .locked →
    s.part.timeBase.watchdog = none ∨ s.part.timeBase.watchdog = some 0 →
    s.part.scan.period = some u → s.part.scan.received.length < 49 →
    ∃ t, exec .oscillatorMillisecond s = .next t
      ∧ t.part.timeBase.lineTime = s.part.timeBase.lineTime + 1
      ∧ t.part.scan.period = some (s.part.timeBase.lineTime + 1) ∧ t.part.scan.received = []
      ∧ t.part.scan.held = s.part.scan.held
      ∧ (s.part.scan.state = .running → s.part.scan.misses < 7 →
          t.part.scan.state = .running ∧ t.part.scan.misses = s.part.scan.misses + 1
          ∧ ∀ l, (s.part.line l).state ≠ .disabled → (s.part.line l).slicer.awaitingFirst = false →
            (t.part.line l).slicer = (s.part.line l).slicer.take (s.part.scan.held.get l).toNat)
      ∧ (s.part.scan.state = .running → s.part.scan.misses = 7 →
          t.part.scan.state = .lost ∧ t.part.scan.misses = 8
          ∧ ∀ l, (t.part.line l).slicer = (s.part.line l).slicer ∧ (t.part.line l).decoder.run = (s.part.line l).decoder.run
            ∧ (t.part.line l).state = (s.part.line l).state
            ∧ ((s.part.line l).state ≠ .disabled → (t.part.line l).decoder.digit = none))
      ∧ (s.part.scan.state = .lost → t.part.scan.state = .lost ∧ t.part.scan.misses = s.part.scan.misses
          ∧ t.part.lines = s.part.lines)

/-- R6: the frame that restores the scan. That SCAN (RESTORED) stands ahead of every other report of the frame is the model's
choice (assumption log 29). -/
def Obligations.GoodFrameRestoresTheScan : Prop :=
  ∀ (s : State) (bytes : List Byte) (now : LineTime),
    s.ready → s.part.supervisionKept → s.part.scan.state = .lost → s.part.scan.period = some now →
    s.part.scan.received = [] → bytes.length = 49 →
    (∀ m : LineId, (bytes.getD m.val 0).toNat < 128) → (bytes.map BitVec.toNat).sum % 256 = 0 →
    ∃ t, exec (.scanFrame bytes) s = .next t
      ∧ t.part.scan.state = .running ∧ t.part.scan.misses = 0
      ∧ (∀ l : LineId, t.part.scan.held.get l = bytes.getD l.val 0)
      ∧ (∀ lk, s.part.takes lk → (s.part.link lk).queue.length < 128 →
          (s.part.link lk).queue ++ [⟨stampOf s.part.timeBase.lineTime, .scan .running⟩] <+: (t.part.link lk).queue)
      ∧ ∀ (l : LineId) (x : Line) (c : Nat) (st : Loop), x = s.part.line l → c = (bytes.getD l.val 0).toNat →
        st = (if (x.slicer.lc + x.slicer.lo) / 2 < 16 * c then .closed else .open) →
        (x.state = .disabled → t.part.line l = x)
        ∧ (x.state ≠ .disabled →
            (t.part.line l).slicer.debounced = st ∧ (t.part.line l).slicer.candidate = 0
            ∧ (t.part.line l).decoder.run = ⟨st, now, 1, true⟩ ∧ (t.part.line l).decoder.ended = none)
        ∧ (x.state ≠ .disabled → x.slicer.awaitingFirst = false → st = x.slicer.debounced →
            (t.part.line l).state = x.state ∧ (t.part.line l).timer = x.timer)
        ∧ (x.state = .active → x.slicer.awaitingFirst = false → x.slicer.debounced = .closed → st = .open →
            (t.part.line l).pulseDialled = true)
        ∧ (x.state = .quarantine → x.slicer.awaitingFirst = false → st ≠ x.slicer.debounced →
            (t.part.line l).timer = some ⟨.settle, (s.part.profileOfLine l).settleTime * 1000⟩)

/-- R14, R15, R17, R18, R19: a class review. -/
def Obligations.ClassReviewSetsClasses : Prop :=
  ∀ (s : State) (review : Slicer → Slicer), s.ready → s.part.timeBase.reviewDue = true →
    (∀ x c, c = (if x.lc - x.lo < 96 then LineClass.fault else if x.lc - x.lo < 320 then .weak
        else if 64 < x.lo then .damp else .clean) →
      review x = { x with cls := c, faultReviews := if c = .fault then min 8 (x.faultReviews + 1) else 0 }) →
    (s.part.scan.state = .lost → exec .classReview s = .next (s.withPart
      { s.part with timeBase := { s.part.timeBase with reviewDue := false } }))
    ∧ (s.part.scan.state = .running → ∃ t, exec .classReview s = .next t
      ∧ t.part.timeBase = { s.part.timeBase with reviewDue := false }
      ∧ ∀ l, ((s.part.line l).state = .disabled → (t.part.line l).state = .disabled
            ∧ (t.part.line l).slicer = (s.part.line l).slicer)
          ∧ ((s.part.line l).state ≠ .disabled → (t.part.line l).slicer = review (s.part.line l).slicer
            ∧ (t.part.line l).state = if (review (s.part.line l).slicer).faultReviews = 8 then .quarantine
                else (s.part.line l).state))
    ∧ ∀ (l : LineId) (x : Line) (y : Slicer) (p : Part), s.part.scan.state = .running →
      (∀ m, m ≠ l → (s.part.line m).state = .disabled) → x = s.part.line l → x.state ≠ .disabled → y = review x.slicer →
      p = { s.part.setLine l { x with slicer := y } with
        timeBase := { s.part.timeBase with reviewDue := false } } →
      ∀ q, q = (if y.cls = x.slicer.cls then p
          else p.reportBoth (.classChange l x.slicer.cls y.cls y.lc y.lo y.faultReviews)) →
      (y.cls ≠ .fault → exec .classReview s = .next (s.withPart q))
      ∧ (y.cls = .fault → x.state = .quarantine → exec .classReview s = .next (s.withPart
          (q.setLine l { x with
            slicer := y, timer := some ⟨.settle, (s.part.profileOfLine l).settleTime * 1000⟩ })))
      ∧ (y.cls = .fault → x.state ≠ .quarantine → exec .classReview s = .next (s.withPart
          (if y.faultReviews < 8 then q
          else ((q.abandoned l).afterLeaving l .quarantine
              (some ⟨.settle, (s.part.profileOfLine l).settleTime * 1000⟩)).reportBoth
            (.lineState l .quarantine x.state x.gate .fault none ((q.abandoned l).line l).queue.length))))

/-! ### Pulse decoder -/

/-- R16, R23, R27, R32, R33, R34, R46, R47: the confirmation of a run in ACTIVE settles the ended open run as PULSE, INVALID or
FLASH, traced first. A test that is due and does not confirm, in any state, does nothing but mark itself made. -/
def Obligations.ConfirmationSettlesAnOpenRunInActive : Prop :=
  ∀ (s : State) (l : LineId) (x : Line) (d : Decoder) (bmin : Nat),
    s.hold.held = false → x = s.part.line l → d = x.decoder → d.tests = .confirmation →
    bmin = (match x.slicer.cls with | .clean => 20 | .damp => 24 | .weak => 28 | .fault => 28) →
    ((x.state ≠ .active ∧ x.state ≠ .converse) ∨ d.run.confirmed = true ∨ x.slicer.debounced ≠ d.run.polarity
        ∨ d.run.duration < bmin →
      exec (.runConfirmation l) s = .next (s.withPart (s.part.setLine l { x with decoder := { d with tests := .limit } })))
    ∧ ∀ (r : Run) (prof : Profile) (flashMin : Nat) (d' : Decoder), x.state = .active → d.run.confirmed = false →
      x.slicer.debounced = d.run.polarity → bmin ≤ d.run.duration → d.ended = some r → r.polarity = .open →
      prof = s.part.profileOfLine l → flashMin = (match d.digit with | some g => g.flashMin | none => prof.flashMin) →
      d' = { d with run := { d.run with confirmed := true }, ended := none, tests := .limit } →
      (r.duration ≤ d.pEst / 16 → exec (.runConfirmation l) s = .next (s.withPart
        ((s.part.traceReport l .open r.duration .pulse).setLine l { x with
          timer := x.classTimer .partialDial prof.partialTime
          decoder := { d' with
            pendingBreak := some r.duration
            digit := some (match d.digit with
              | some g => { g with count := min 11 (g.count + 1) }
              | none => ⟨1, false, 0, 0, prof.flashMin, prof.clearTime, prof.convention⟩) } })))
      ∧ (d.pEst / 16 < r.duration → r.duration < flashMin → exec (.runConfirmation l) s = .next (s.withPart
        ((s.part.traceReport l .open r.duration .invalid).setLine l { x with
          decoder := { d' with
            digit := some (match d.digit with
              | some g => { g with mutilated := true }
              | none => ⟨0, true, 0, 0, prof.flashMin, prof.clearTime, prof.convention⟩) } })))
      ∧ (d.pEst / 16 < r.duration → flashMin ≤ r.duration → exec (.runConfirmation l) s = .next (s.withPart
        (((match d.digit with
            | some g => (s.part.traceReport l .open r.duration .flash).reportBoth
                (.digitError l .broken g.count g.convention)
            | none => s.part.traceReport l .open r.duration .flash).reportBoth (.flash l r.duration .active)).setLine l
          { x with
            timer := x.classTimer .partialDial prof.partialTime
            decoder := (match d.digit with
              | some _ => { d' with digit := none, pendingBreak := none }
              | none => d') })))

/-- R61, R27, R32, R33, R34, R46: in CONVERSE a settled open run is traced, and only a FLASH does more: it is reported. -/
def Obligations.ConfirmationInConverseReportsFlashesAlone : Prop :=
  ∀ (s : State) (l : LineId) (x : Line) (d : Decoder) (r : Run) (v : Verdict) (flashMin bmin : Nat),
    s.hold.held = false → x = s.part.line l → d = x.decoder → d.tests = .confirmation → x.state = .converse →
    d.run.confirmed = false → x.slicer.debounced = d.run.polarity →
    bmin = (match x.slicer.cls with | .clean => 20 | .damp => 24 | .weak => 28 | .fault => 28) → bmin ≤ d.run.duration →
    d.ended = some r → r.polarity = .open →
    flashMin = (match d.digit with | some g => g.flashMin | none => (s.part.profileOfLine l).flashMin) →
    v = (if r.duration ≤ d.pEst / 16 then .pulse else if r.duration < flashMin then .invalid else .flash) →
    ∀ p : Part, p = (s.part.traceReport l .open r.duration v).setLine l { x with
      decoder := { d with run := { d.run with confirmed := true }, ended := none, tests := .limit } } →
    exec (.runConfirmation l) s
      = .next (s.withPart (if v = .flash then p.reportBoth (.flash l r.duration .converse) else p))

/-- R30, R36, R37, R46: the confirmation of a run settles an ended closed run as MAKE, which pairs with a pending break of a
digit in progress in ACTIVE, and with nothing else. -/
def Obligations.ConfirmationPairsAMake : Prop :=
  ∀ (s : State) (l : LineId) (x : Line) (d : Decoder) (r : Run) (d' : Decoder) (bmin : Nat),
    s.hold.held = false → x = s.part.line l → d = x.decoder → d.tests = .confirmation → d.run.confirmed = false →
    bmin = (match x.slicer.cls with | .clean => 20 | .damp => 24 | .weak => 28 | .fault => 28) →
    x.slicer.debounced = d.run.polarity → bmin ≤ d.run.duration → d.ended = some r → r.polarity = .closed →
    d' = { d with run := { d.run with confirmed := true }, ended := none, tests := .limit } →
    (∀ (g : Digit) (b n : Nat), x.state = .active → d.digit = some g → d.pendingBreak = some b → n = b + r.duration →
      exec (.runConfirmation l) s = .next (s.withPart
        ((s.part.traceReport l .closed r.duration .make).setLine l { x with
          decoder := { d' with
            pendingBreak := none
            digit := some { g with pairSum := min 65535 (g.pairSum + n), pairCount := min 255 (g.pairCount + 1) }
            pEst := if 55 ≤ n ∧ n ≤ 160 then ((d.pEst : Int) + (16 * (n : Int) - d.pEst).tdiv 4).toNat else d.pEst } })))
    ∧ ((x.state = .active ∧ (d.digit = none ∨ d.pendingBreak = none)) ∨ x.state = .converse →
      exec (.runConfirmation l) s = .next (s.withPart
        ((s.part.traceReport l .closed r.duration .make).setLine l { x with decoder := d' })))

/-- R29, R38, R39, R40, R46, R77, R78, R79, R49: the gap ends the digit: an error, or a digit that is stored or lost. The
PARTIAL timer starts afresh either way. A gap test that is due and does not reach G, or finds no digit, does nothing but
mark itself made, and a line whose debounced state is OPEN has no gap test due. -/
def Obligations.GapEndsTheDigit : Prop :=
  ∀ (s : State) (l : LineId) (x : Line) (d : Decoder),
    s.hold.held = false → x = s.part.line l → d = x.decoder → d.tests = .limit →
    (x.slicer.debounced = .open → exec (.gap l) s = .next s)
    ∧ (x.slicer.debounced = .closed →
        x.state ≠ .active ∨ d.digit = none ∨ d.run.polarity = .open ∨ d.run.duration < d.pEst / 8 →
        exec (.gap l) s = .next (s.withPart (s.part.setLine l { x with decoder := { d with tests := .made } })))
    ∧ ∀ (g : Digit) (prof : Profile) (p : Part) (index : Nat) (now : Line),
      x.state = .active → d.digit = some g → x.slicer.debounced = .closed → d.run.polarity = .closed →
      d.pEst / 8 ≤ d.run.duration → prof = s.part.profileOfLine l →
      now = { x with decoder := { d with digit := none, pendingBreak := none, tests := .made } } →
      p = (s.part.setLine l now).traceReport l .closed d.run.duration .gap →
      index = (if x.digitIndex < 255 then x.digitIndex + 1 else 1) →
      (∀ reason, (g.mutilated = true ∧ reason = .mutilated) ∨ (g.mutilated = false ∧ g.count = 11 ∧ reason = .overcount)
          ∨ (g.mutilated = false ∧ (∃ n : Fin 10, g.count = n.val + 1 ∧ (s.part.convention g.convention).get n = none)
            ∧ reason = .unmapped) →
        exec (.gap l) s = .next (s.withPart
          ((p.reportBoth (.digitError l reason g.count g.convention)).setLine l
            { now with timer := x.classTimer .partialDial prof.partialTime })))
      ∧ (∀ (n : Fin 10) (y : Symbol) (mean : Option Nat) (q : Part), g.mutilated = false → g.count = n.val + 1 →
          (s.part.convention g.convention).get n = some y →
          mean = (if g.pairCount = 0 then none else some (g.pairSum / g.pairCount)) →
          q = p.reportBoth (.digit l y .dialled (some g.count) mean (some g.convention) index none) →
          (∀ reason, (s.part.globals.lineCap ≤ x.queue.length ∧ reason = .line)
              ∨ (x.queue.length < s.part.globals.lineCap ∧ s.part.free = 0 ∧ reason = .pool) →
            exec (.gap l) s = .next (s.withPart
              ((q.reportBoth (.digitLost l reason y index x.queue.length s.part.free)).setLine l
                { now with digitIndex := index, flaps := 0, timer := x.classTimer .partialDial prof.partialTime })))
          ∧ (x.queue.length < s.part.globals.lineCap → 0 < s.part.free →
            exec (.gap l) s = .next (s.withPart
              ((({ q.setLine l { now with
                    digitIndex := index
                    queue := x.queue ++ [⟨y, .dialled, some g.count, mean, index, s.part.stamp, false⟩] } with
                  free := s.part.free - 1 } : Part).judge l).updLine l
                (fun z => { z with flaps := 0, timer := x.classTimer .partialDial prof.partialTime })))))

/-- R28, R31, R55, R58, R59, R62: a CLEAR takes the line out of ACTIVE, CONVERSE or PARKED; a short call raises the flap
count and may quarantine. A clear test that is due and does not reach clear_time does nothing but mark itself made.
The difference of the short-call test is taken modulo 2^32 (R178), so a start before the call start is no short call
(assumption log 9). The model's choice (assumption log 32) is that the CLEAR trace stands ahead of the DIGIT SENT of the abort. -/
def Obligations.ClearReturnsTheLineToIdle : Prop :=
  ∀ (s : State) (l : LineId) (x : Line) (clearTime : Nat),
    s.hold.held = false → x = s.part.line l → x.decoder.tests = .limit →
    clearTime = (match x.decoder.digit, decide (x.state = .parked) with
      | some g, false => g.clearTime
      | _, _ => (s.part.profileOfLine l).clearTime) →
    (x.slicer.debounced = .closed → exec (.clear l) s = .next s)
    ∧ (x.slicer.debounced = .open →
        (x.state ≠ .active ∧ x.state ≠ .converse ∧ x.state ≠ .parked) ∨ x.decoder.run.polarity = .closed
          ∨ x.decoder.run.duration < clearTime →
        exec (.clear l) s
          = .next (s.withPart (s.part.setLine l { x with decoder := { x.decoder with tests := .made } })))
    ∧ ∀ p : Part, x.slicer.debounced = .open → x.decoder.run.polarity = .open →
      x.state = .active ∨ x.state = .converse ∨ x.state = .parked → clearTime ≤ x.decoder.run.duration →
      p = s.part.traceReport l .open x.decoder.run.duration .clear →
      (x.state ≠ .active ∨ x.digitIndex ≠ 0 ∨ x.callStart = none →
        exec (.clear l) s = .next (s.withPart
          (((p.abandoned l).afterLeaving l .idle (some ⟨.rest, 30000⟩)).reportBoth
            (.lineState l .idle x.state x.gate .clear none ((p.abandoned l).line l).queue.length))))
      ∧ (∀ (t : LineTime) (n : Nat) (q : Part), x.state = .active → x.digitIndex = 0 →
          x.callStart = some t →
          n = min 15 (x.flaps + 1) → q = p.setLine l { x with flaps := n } →
          (1000 ≤ (x.decoder.run.start - t).toNat → exec (.clear l) s = .next (s.withPart
            (((p.abandoned l).afterLeaving l .idle (some ⟨.rest, 30000⟩)).reportBoth
              (.lineState l .idle .active x.gate .clear none ((p.abandoned l).line l).queue.length))))
          ∧ ((x.decoder.run.start - t).toNat < 1000 → exec (.clear l) s = .next (s.withPart
            (if n < (s.part.profileOfLine l).flapLimit then
              ((q.abandoned l).afterLeaving l .idle (some ⟨.rest, 30000⟩)).reportBoth
                (.lineState l .idle .active x.gate .clear none ((q.abandoned l).line l).queue.length)
            else
              ((q.abandoned l).afterLeaving l .quarantine
                  (some ⟨.settle, (s.part.profileOfLine l).settleTime * 1000⟩)).reportBoth
                (.lineState l .quarantine .active x.gate .flap none ((q.abandoned l).line l).queue.length)))))

/-- R43, R13: RELEARN seeds levels and P_est from the current profile and drops what was being dialled. -/
def Obligations.RelearnSeedsFromTheProfile : Prop :=
  ∀ (s : State) (lk : LinkId) (l : LineId), s.ready → s.part.takes lk → (s.part.line l).state ≠ .disabled →
    exec (.relearn lk (lowChar l.val)) s = .next (s.withPart
      ((s.part.setLine l { s.part.line l with
          slicer := { (s.part.line l).slicer with
            lo := 0, lc := 16 * (s.part.profileOfLine l).nominal, candidate := 0 }
          decoder := { (s.part.line l).decoder with
            pEst := 16 * (s.part.profileOfLine l).pNom, digit := none, pendingBreak := none, ended := none
            run := { (s.part.line l).decoder.run with confirmed := true } } }).report lk
        (.ack 0x0D (some (lowChar l.val)) 0)))

/-- R44, R45: TRACE ON and TRACE OFF. -/
def Obligations.TraceCommandsTakeAndFreeSlots : Prop :=
  ∀ (s : State) (lk : LinkId) (l : LineId), s.ready → s.part.takes lk →
    ((s.part.line l).state ≠ .disabled →
      (∀ i, (s.part.line l).trace = some i → exec (.traceOn lk (lowChar l.val)) s
        = .next (s.withPart (s.part.report lk (.ack 0x0E (some (lowChar l.val)) 0))))
      ∧ (∀ i : SlotId, (s.part.line l).trace = none → s.part.traceSlot i = none →
          (∀ j, j < i → s.part.traceSlot j ≠ none) →
          exec (.traceOn lk (lowChar l.val)) s = .next (s.withPart
            (((s.part.setTraceSlot i (some l)).setLine l { s.part.line l with trace := some i }).report lk
              (.ack 0x0E (some (lowChar l.val)) 0))))
      ∧ ((s.part.line l).trace = none → (∀ i, s.part.traceSlot i ≠ none) →
          exec (.traceOn lk (lowChar l.val)) s = .next (s.withPart
            (s.part.report lk (.reject .busy 0x0E (some (lowChar l.val)) 0 0 0)))))
    ∧ ((s.part.line l).trace = none → exec (.traceOff lk (lowChar l.val)) s
        = .next (s.withPart (s.part.report lk (.ack 0x0F (some (lowChar l.val)) 0))))
    ∧ ∀ i, (s.part.line l).trace = some i → exec (.traceOff lk (lowChar l.val)) s = .next (s.withPart
        (((s.part.setTraceSlot i none).setLine l { s.part.line l with trace := none }).report lk
          (.ack 0x0F (some (lowChar l.val)) 0)))

/-! ### Line supervisor -/

/-- R51, R53, R55, R56, R64, R72: the expiries of the five supervision timers. -/
def Obligations.SupervisionTimersExpire : Prop :=
  ∀ (s : State) (l : LineId) (x : Line) (r : Profile) (st : LineState), s.ready → x = s.part.line l →
    r = s.part.profileOfLine l → st = (match x.slicer.debounced with | .open => .idle | .closed => .parked) →
    (x.timer = some ⟨.rest, 0⟩ → exec (.restExpiry l) s
      = .next (s.withPart (s.part.setLine l { x with timer := none, flaps := 0 })))
    ∧ (x.timer = some ⟨.seize, 0⟩ → exec (.seizeExpiry l) s = .next (s.withPart
      (((s.part.setLine l { x with
          state := .active
          gate := r.seizeGate
          pulseDialled := false
          digitIndex := 0
          callStart := some s.part.timeBase.lineTime
          timer := x.classTimer .firstDigit r.firstDigitTime
          decoder := { x.decoder with run := { x.decoder.run with confirmed := true }, ended := none } }).reportBoth
        (.lineState l .active x.state r.seizeGate .seize none 0)).judge l)))
    ∧ (x.timer = some ⟨.firstDigit, 0⟩ → exec (.firstDigitExpiry l) s = .next (s.withPart
      (((s.part.abandoned l).afterLeaving l .parked none).reportBoth
        (.lineState l .parked x.state x.gate .firstDigit none ((s.part.abandoned l).line l).queue.length))))
    ∧ (x.timer = some ⟨.partialDial, 0⟩ → exec (.partialExpiry l) s = .next (s.withPart
      (((s.part.abandoned l).afterLeaving l .parked none).reportBoth
        (.lineState l .parked x.state x.gate .partialDial none ((s.part.abandoned l).line l).queue.length))))
    ∧ (x.timer = some ⟨.settle, 0⟩ → exec (.settleExpiry l) s = .next (s.withPart
        ((s.part.setLine l { x with
            state := st
            timer := if st = .idle then some ⟨.rest, 30000⟩ else none
            decoder := { x.decoder with
              run := { x.decoder.run with confirmed := true }, ended := none } }).reportBoth
          (.lineState l st x.state x.gate .settled none 0))))

/-- R66, with R12, R20 and R51: what ENABLE of a DISABLED line leaves; nothing else changes. -/
def Obligations.EnableStartsTheLineInIdle : Prop :=
  ∀ (s : State) (lk : LinkId) (l : LineId) (i : ProfileId),
    s.ready → s.part.takes lk → (s.part.line l).state = .disabled →
    exec (.enable lk (lowChar l.val) (lowChar i.val)) s = .next (s.withPart
      (((s.part.setLine l { s.part.line l with
          state := .idle
          profile := i
          gate := .shut
          digitIndex := 0
          flaps := 0
          pulseDialled := false
          callStart := none
          timer := some ⟨.rest, 30000⟩
          slicer := { (s.part.line l).slicer with
            lo := 0, lc := 16 * (s.part.profile i).nominal, cls := .clean, faultReviews := 0, candidate := 0
            awaitingFirst := true }
          decoder := { (s.part.line l).decoder.cleared .idle with pEst := 16 * (s.part.profile i).pNom } }).reportBoth
        (.lineState l .idle .disabled .shut .enable (some lk) 0)).report lk (.ack 0x02 (some (lowChar l.val)) 0)))

/-- R67, R45, R59: DISABLE frees the trace slot, takes the steps of R59, reports and is answered ACK. -/
def Obligations.DisableFreesTraceAndLeaves : Prop :=
  ∀ (s : State) (lk : LinkId) (l : LineId), s.ready → s.part.takes lk → (s.part.line l).state ≠ .disabled →
    ∀ p : Part,
      p = (match (s.part.line l).trace with
        | none => s.part
        | some i => (s.part.setTraceSlot i none).setLine l { s.part.line l with trace := none }) →
      exec (.disable lk (lowChar l.val)) s = .next (s.withPart
        ((((p.abandoned l).afterLeaving l .disabled none).reportBoth
          (.lineState l .disabled (s.part.line l).state (s.part.line l).gate .disable (some lk)
            ((p.abandoned l).line l).queue.length)).report lk (.ack 0x03 (some (lowChar l.val)) 0)))

/-- R68, R60, R97: OPEN GATE and SHUT GATE store their value; a change is reported, and in ACTIVE it is handed to
the sender pool. -/
def Obligations.GateCommandsStoreTheirValue : Prop :=
  ∀ (s : State) (lk : LinkId) (l : LineId), s.ready → s.part.takes lk →
    (s.part.line l).state = .active ∨ (s.part.line l).state = .converse →
    ((s.part.line l).gate = .open → exec (.openGate lk (lowChar l.val)) s
      = .next (s.withPart (s.part.report lk (.ack 0x05 (some (lowChar l.val)) 0))))
    ∧ ((s.part.line l).gate = .shut → exec (.shutGate lk (lowChar l.val)) s
      = .next (s.withPart (s.part.report lk (.ack 0x06 (some (lowChar l.val)) 0))))
    ∧ ((s.part.line l).gate = .shut → ∀ p : Part,
        p = (s.part.setLine l { s.part.line l with gate := .open }).reportBoth
          (.lineState l (s.part.line l).state (s.part.line l).state .open .openGate (some lk) 0) →
        exec (.openGate lk (lowChar l.val)) s = .next (s.withPart
          ((if (s.part.line l).state = .active then p.judge l else p).report lk (.ack 0x05 (some (lowChar l.val)) 0))))
    ∧ ((s.part.line l).gate = .open → ∀ p : Part,
        p = (s.part.setLine l { s.part.line l with gate := .shut }).reportBoth
          (.lineState l (s.part.line l).state (s.part.line l).state .shut .shutGate (some lk) 0) →
        exec (.shutGate lk (lowChar l.val)) s = .next (s.withPart
          ((if (s.part.line l).state = .active then
              { p with grantQueue := p.grantQueue.filter (fun m => decide (m ≠ l)) } else p).report lk
            (.ack 0x06 (some (lowChar l.val)) 0))))

/-- R69, R71, R59: CONVERSE and PARK take the steps of R59, report the flushed count, and are answered ACK. -/
def Obligations.ConverseAndParkTakeTheLeavingSteps : Prop :=
  ∀ (s : State) (lk : LinkId) (l : LineId), s.ready → s.part.takes lk →
    ((s.part.line l).state = .active →
      exec (.converse lk (lowChar l.val)) s = .next (s.withPart
        ((((s.part.abandoned l).afterLeaving l .converse none).reportBoth
          (.lineState l .converse .active (s.part.line l).gate .converse (some lk)
            ((s.part.abandoned l).line l).queue.length)).report lk (.ack 0x07 (some (lowChar l.val)) 0))))
    ∧ ((s.part.line l).state = .active ∨ (s.part.line l).state = .converse →
      exec (.park lk (lowChar l.val)) s = .next (s.withPart
        ((((s.part.abandoned l).afterLeaving l .parked none).reportBoth
          (.lineState l .parked (s.part.line l).state (s.part.line l).gate .park (some lk)
            ((s.part.abandoned l).line l).queue.length)).report lk (.ack 0x09 (some (lowChar l.val)) 0))))

/-- R70, R26, R95: RESUME of a CONVERSE line to ACTIVE; R72, R53: RESTORE of a PARKED or QUARANTINE line to IDLE by an open
loop, and to ACTIVE with the entry of a seizure by a closed one. The line's eligibility is judged after the report. -/
def Obligations.ResumeAndRestoreReturnTheLine : Prop :=
  ∀ (s : State) (lk : LinkId) (l : LineId) (x : Line) (r : Profile) (d : Decoder), s.ready → s.part.takes lk →
    x = s.part.line l → r = s.part.profileOfLine l →
    d = { x.decoder with run := { x.decoder.run with confirmed := true }, ended := none } →
    (x.state = .converse → exec (.resume lk (lowChar l.val)) s = .next (s.withPart
      ((((s.part.setLine l { x with
          state := .active, pulseDialled := false, timer := x.classTimer .firstDigit r.firstDigitTime, decoder := d
        }).reportBoth (.lineState l .active .converse x.gate .resume (some lk) 0)).judge l).report lk
          (.ack 0x08 (some (lowChar l.val)) 0))))
    ∧ (x.state = .parked ∨ x.state = .quarantine → x.slicer.debounced = .open →
      exec (.restore lk (lowChar l.val)) s = .next (s.withPart
        ((((s.part.setLine l { x with
            state := .idle, flaps := 0, timer := some ⟨.rest, 30000⟩, decoder := d
          }).reportBoth (.lineState l .idle x.state x.gate .restored (some lk) 0)).judge l).report lk
            (.ack 0x0A (some (lowChar l.val)) 0))))
    ∧ (x.state = .parked ∨ x.state = .quarantine → x.slicer.debounced = .closed →
      exec (.restore lk (lowChar l.val)) s = .next (s.withPart
        ((((s.part.setLine l { x with
            state := .active, gate := r.seizeGate, pulseDialled := false, digitIndex := 0, flaps := 0
            callStart := some s.part.timeBase.lineTime, timer := x.classTimer .firstDigit r.firstDigitTime, decoder := d
          }).reportBoth (.lineState l .active x.state r.seizeGate .restored (some lk) 0)).judge l).report lk
            (.ack 0x0A (some (lowChar l.val)) 0))))

/-- R73: QUERY LINE is answered with the record as it stands, and changes nothing else; and what the reply says of each
part of the record (10.6), with the codes and absence codes of 10.4 and every number low-order character first (R190). -/
def Obligations.QueryLineAnswersTheRecord : Prop :=
  (∀ (s : State) (lk : LinkId) (l : LineId), s.ready → s.part.takes lk →
    exec (.queryLine lk (lowChar l.val)) s = .next (s.withPart
      (s.part.report lk (.lineReply l (s.part.line l) (decide (l ∈ s.part.grantQueue))))))
  ∧ ∀ (stamp : Half) (l : LineId) (x : Line) (waiting : Bool) (cs : List Byte) (one two : Nat → Nat),
    cs = Report.bodyChars ⟨stamp, .lineReply l x waiting⟩ → (∀ n, one n = (cs.getD n 0).toNat) →
    (∀ n, two n = one n + 256 * one (n + 1)) →
    (ReportBody.lineReply l x waiting).kind = 0x4D ∧ cs.length = 40 ∧ two 0 = stamp.toNat ∧ one 2 = l.val
    ∧ [LineState.disabled, .idle, .seizing, .active, .converse, .parked, .quarantine][one 3]? = some x.state
    ∧ one 4 = x.profile.val
    ∧ (∀ n, (one 5).testBit n = [decide (x.gate = .open), x.pulseDialled, waiting, x.callStart.isSome
        , decide (x.slicer.debounced = .closed), decide (x.decoder.run.polarity = .closed), x.decoder.run.confirmed
        , x.decoder.ended.isSome].getD n false)
    ∧ one 6 = x.digitIndex % 256 ∧ two 7 = (match x.callStart with | none => 0 | some t => t.toNat % 65536)
    ∧ two 9 + 65536 * one 11 = (match x.timer with
      | none => 0
      | some t => t.remaining % 131072 + 2097152 * (match t.kind with
        | .rest => 1 | .seize => 2 | .firstDigit => 3 | .partialDial => 4 | .settle => 5))
    ∧ one 12 = (x.flaps + 16 * (match x.trace with | none => 15 | some i => i.val)) % 256
    ∧ one 13 = x.queue.length % 256 ∧ one 14 = (match x.sender with | none => 255 | some k => k.val)
    ∧ one 15 = x.runCount % 256 ∧ two 16 = x.slicer.lc % 65536 ∧ two 18 = x.slicer.lo % 65536
    ∧ one 20 = x.slicer.candidate % 256 ∧ [LineClass.clean, .damp, .weak, .fault][one 21]? = some x.slicer.cls
    ∧ one 22 = x.slicer.faultReviews % 256 ∧ two 23 = x.decoder.pEst % 65536
    ∧ two 25 = x.decoder.run.start.toNat % 65536 ∧ two 27 = x.decoder.run.duration % 65536
    ∧ two 29 = (match x.decoder.ended with | none => 0 | some r => r.duration % 65536)
    ∧ one 31 = (match x.decoder.pendingBreak with | none => 0 | some b => b % 256)
    ∧ (x.decoder.digit = none → ∀ n, 32 ≤ n → one n = 0)
    ∧ ∀ g, x.decoder.digit = some g →
        one 32 = (1 + (if g.mutilated then 2 else 0) + 4 * g.convention.val + 16 * g.count) % 256
        ∧ one 33 = g.pairCount % 256 ∧ two 34 = g.pairSum % 65536 ∧ two 36 = g.flashMin % 65536
        ∧ two 38 = g.clearTime % 65536

/-- R65, R161, R191, and the rules that name the states a command is taken in: a command with an index out of range is
answered REJECT RANGE, and one for a line in another state REJECT STATE; neither changes anything else. -/
def Obligations.CommandsAreRejectedByIndexAndState : Prop :=
  ∀ (s : State) (lk : LinkId) (b : Byte) (kind : Byte) (c : Instr), s.ready → s.part.takes lk →
    (((48 ≤ b.toNat ∧ ((kind, c) ∈ [((0x03 : Byte), Instr.disable lk b), (0x05, .openGate lk b), (0x06, .shutGate lk b),
          (0x07, .converse lk b), (0x08, .resume lk b), (0x09, .park lk b), (0x0A, .restore lk b), (0x0B, .withdraw lk b),
          (0x0D, .relearn lk b), (0x0E, .traceOn lk b), (0x0F, .traceOff lk b), (0x10, .queryLine lk b)]
        ∨ ∃ xs, (kind, c) = (0x0C, Instr.inject lk b xs)))
      ∨ (∃ i : Byte, (48 ≤ b.toNat ∨ 8 ≤ i.toNat) ∧
          (kind, c) ∈ [((0x02 : Byte), Instr.enable lk b i), (0x04, .setProfile lk b i)])
      ∨ (∃ r, 8 ≤ b.toNat ∧ (kind, c) = (0x11, Instr.writeProfile lk b r))
      ∨ (∃ es, 4 ≤ b.toNat ∧ (kind, c) = (0x12, Instr.writeConvention lk b es))) →
      exec c s = .next (s.withPart (s.part.report lk (.reject .range kind (some b) 0 0 0))))
    ∧ (∀ (l : LineId) (taken : List LineState), b.toNat = l.val →
      (kind, c, taken) ∈
          [((0x03 : Byte), Instr.disable lk b, [LineState.idle, .seizing, .active, .converse, .parked, .quarantine])
          , (0x05, .openGate lk b, [.active, .converse]), (0x06, .shutGate lk b, [.active, .converse])
          , (0x07, .converse lk b, [.active]), (0x08, .resume lk b, [.converse])
          , (0x09, .park lk b, [.active, .converse]), (0x0A, .restore lk b, [.parked, .quarantine])
          , (0x0B, .withdraw lk b, [.active])
          , (0x0D, .relearn lk b, [.idle, .seizing, .active, .converse, .parked, .quarantine])
          , (0x0E, .traceOn lk b, [.idle, .seizing, .active, .converse, .parked, .quarantine])]
        ∨ (∃ i : Byte, i.toNat < 8 ∧ (kind, c, taken) = (0x02, Instr.enable lk b i, [.disabled]))
        ∨ (∃ i : Byte, i.toNat < 8 ∧ (kind, c, taken) = (0x04, Instr.setProfile lk b i,
            [.idle, .seizing, .active, .converse, .parked, .quarantine]))
        ∨ (∃ xs, (kind, c, taken) = (0x0C, Instr.inject lk b xs, [.active])) →
      (s.part.line l).state ∉ taken →
      exec c s = .next (s.withPart (s.part.report lk (.reject .state kind (some b) 0 0 0))))

/-! ### Digit store and sender pool -/

/-- R90, R91, R92: an INJECT of 1 to 16 symbols that finds room enqueues them at the tail, in order, with consecutive
indexes, reports each, and is answered with the first and the last index. -/
def Obligations.InjectEnqueuesAllItsSymbols : Prop :=
  ∀ (s : State) (lk : LinkId) (l : LineId) (xs : List Symbol) (indexes : List Nat) (next : Nat → Nat),
    (∀ i, next i = if i < 255 then i + 1 else 1) → s.ready → s.part.takes lk → (s.part.line l).state = .active →
    1 ≤ xs.length → xs.length ≤ 16 →
    xs.length + (s.part.line l).queue.length ≤ s.part.globals.lineCap → xs.length ≤ s.part.free →
    indexes = (List.range xs.length).map (fun n => next^[n + 1] (s.part.line l).digitIndex) →
    exec (.inject lk (lowChar l.val) (xs.map symbolCode)) s = .next (s.withPart
      ((((xs.zip indexes).foldl
          (fun (p : Part) xi => p.reportBoth (.digit l xi.1 .injected none none none xi.2 (some lk)))
          { s.part.setLine l { s.part.line l with
              digitIndex := indexes.getLastD 0
              queue := (s.part.line l).queue
                ++ (xs.zip indexes).map (fun xi => (⟨xi.1, .injected, none, none, xi.2, s.part.stamp, false⟩ : Cell)) } with
            free := s.part.free - xs.length }).judge l).report lk
        (.ack 0x0C (some (lowChar l.val)) (twoChars (lowChar (indexes.headD 0)) (lowChar (indexes.getLastD 0))))))

/-- R90: an INJECT whose list is out of range, or finds no room, enqueues nothing and is answered by REJECT. -/
def Obligations.InjectIsRefusedWhole : Prop :=
  ∀ (s : State) (lk : LinkId) (l : LineId) (codes : List Byte), s.ready → s.part.takes lk →
    (s.part.line l).state = .active →
    (codes.length = 0 ∨ 16 < codes.length ∨ (∃ x ∈ codes, 16 ≤ x.toNat) →
      exec (.inject lk (lowChar l.val) codes) s
        = .next (s.withPart (s.part.report lk (.reject .range 0x0C (some (lowChar l.val)) 0 0 0))))
    ∧ (1 ≤ codes.length → codes.length ≤ 16 → (∀ x ∈ codes, x.toNat < 16) →
        s.part.globals.lineCap < codes.length + (s.part.line l).queue.length ∨ s.part.free < codes.length →
        exec (.inject lk (lowChar l.val) codes) s = .next (s.withPart (s.part.report lk
          (.reject .noRoom 0x0C (some (lowChar l.val)) 0 s.part.free
            (s.part.globals.lineCap - (s.part.line l).queue.length)))))

/-- R88, R86: WITHDRAW aborts, leaves the grant queue and flushes, and the line stays ACTIVE. -/
def Obligations.WithdrawFlushesTheQueue : Prop :=
  ∀ (s : State) (lk : LinkId) (l : LineId), s.ready → s.part.takes lk → (s.part.line l).state = .active →
    ∀ p : Part, p = s.part.abort l →
    exec (.withdraw lk (lowChar l.val)) s = .next (s.withPart
      ((({ p.setLine l { p.line l with queue := [] } with
          free := p.free + (p.line l).queue.length
          grantQueue := p.grantQueue.filter (fun m => decide (m ≠ l)) } : Part).reportBoth
        (.lineState l .active .active (s.part.line l).gate .withdraw (some lk) (p.line l).queue.length)).report lk
          (.ack 0x0B (some (lowChar l.val)) 0)))

/-- R101, R102, R84, R104, R105, R100: the end of the on phase commits the cell and enters TONE_OFF; the end of the off
phase continues on the line with the captured values of its present profile, or releases the sender. -/
def Obligations.BurstPhasesEnd : Prop :=
  ∀ (s : State) (k : SenderId) (x : Sender) (c : Captured) (l : LineId) (z : Line) (r : Profile), s.ready →
    x = s.part.sender k → x.captured = some c → x.line = some l → z = s.part.line l → r = s.part.profileOfLine l →
    (∀ y rest, x.state = .toneOn → 8 * c.tOn ≤ x.elapsed → z.queue = y :: rest →
      exec (.onPhaseEnd k) s = .next (s.withPart
        ((({ s.part.setLine l { z with queue := rest } with free := s.part.free + 1 } : Part).reportBoth
          (.digitSent l k .endOfTone y)).setSender k
            { x with state := .toneOff, symbol := none, elapsed := 0, phases := none })))
    ∧ (∀ goesOn : Prop, x.state = .toneOff → 8 * c.tOff ≤ x.elapsed →
      (goesOn ↔ z.state = .active ∧ z.gate = .open ∧ (∃ y rest, z.queue = y :: rest ∧ y.sending = false)
        ∧ (z.runCount < s.part.globals.runLimit ∨ s.part.grantQueue = [])) →
      (∀ y rest, goesOn → z.queue = y :: rest →
        exec (.toneOffEnd k) s = .next (s.withPart
          ((s.part.setLine l { z with
              runCount := min 16 (z.runCount + 1), queue := { y with sending := true } :: rest }).setSender k
            { state := .toneOn, line := some l, symbol := some y.symbol, elapsed := 0
              captured := some ⟨r.tOn, r.tOff, r.commit, r.aL, r.aH⟩, phases := some (0, 0) })))
      ∧ (¬ goesOn → exec (.toneOffEnd k) s = .next (s.withPart
          ((((s.part.setLine l { z with sender := none, runCount := 0 }).setSender k Sender.freed).judge l).grantTest))))

/-- R109, R110, R101, R85: what an abort does to the head cell, by the phase and the commit point. The line itself is not
judged (assumption log 12). -/
def Obligations.AbortCommitsFromTheCommitPoint : Prop :=
  ∀ (p : Part) (l : LineId) (k : SenderId) (x : Sender) (c : Captured) (y : Cell) (rest : List Cell),
    (p.line l).sender = some k → x = p.sender k → x.captured = some c → (p.line l).queue = y :: rest →
    (x.state = .toneOn → 8 * c.commit ≤ x.elapsed →
      p.abort l = (((({ p.setLine l { p.line l with queue := rest } with free := p.free + 1 } : Part).reportBoth
        (.digitSent l k .atAbort y)).setLine l { p.line l with queue := rest, sender := none, runCount := 0 }).setSender k
          Sender.freed).grantTest)
    ∧ (x.state = .toneOn → x.elapsed < 8 * c.commit →
      p.abort l = ((p.setLine l { p.line l with
        queue := { y with sending := false } :: rest, sender := none, runCount := 0 }).setSender k Sender.freed).grantTest)
    ∧ (x.state = .toneOff →
      p.abort l = ((p.setLine l { p.line l with sender := none, runCount := 0 }).setSender k Sender.freed).grantTest)

/-- R95, R96, R98, R99, R112: judging a line, and the rounds of the grant test: the line at the head of the grant
queue leaves it for the lowest-numbered FREE sender, while the time base is LOCKED. -/
def Obligations.GrantsGoToTheLowestFreeSender : Prop :=
  (∀ (p : Part) (l : LineId) (eligible : Prop),
    (eligible ↔ (p.line l).state = .active ∧ (p.line l).gate = .open ∧ (p.line l).sender = none
      ∧ (∃ y rest, (p.line l).queue = y :: rest ∧ y.sending = false) ∧ l ∉ p.grantQueue) →
    (eligible → p.judge l = ({ p with grantQueue := p.grantQueue ++ [l] } : Part).grantTest)
    ∧ (¬ eligible → p.judge l = p))
  ∧ (∀ p : Part, p.timeBase.state ≠ .locked ∨ p.grantQueue = [] ∨ (∀ k, (p.sender k).state ≠ .free) → p.grantTest = p)
  ∧ ∀ (p q : Part) (l : LineId) (rest : List LineId) (k : SenderId) (y : Cell) (cells : List Cell) (r : Profile),
    p.timeBase.state = .locked → p.grantQueue = l :: rest → (p.sender k).state = .free →
    (∀ j, j < k → (p.sender j).state ≠ .free) → (p.line l).queue = y :: cells → r = p.profileOfLine l →
    q = (({ p with grantQueue := rest } : Part).setLine l { p.line l with
        sender := some k, runCount := 1, queue := { y with sending := true } :: cells }).setSender k
          { state := .toneOn, line := some l, symbol := some y.symbol, elapsed := 0
            captured := some ⟨r.tOn, r.tOff, r.commit, r.aL, r.aH⟩, phases := some (0, 0) } →
    p.grantTest = q.grantTest

/-! ### Tones and highways -/

/-- R115, R116, R118, R119: the tone pair of every symbol by code, each increment the nearest integer to f × 65536 / 8000,
and the entries of the sine table that R119 prints, with its symmetries, growth and bounds. -/
def Obligations.TonesAndSineTable : Prop :=
  (∀ y : Symbol, (lowIncrement y).toNat = [7709, 5710, 5710, 5710, 6308, 6308, 6308, 6980, 6980, 6980, 7709, 7709, 5710,
      6308, 6980, 7709].getD y.val 0
    ∧ (highIncrement y).toNat = [10945, 9904, 10945, 12100, 9904, 10945, 12100, 9904, 10945, 12100, 9904, 12100, 13378,
      13378, 13378, 13378].getD y.val 0)
  ∧ (∀ fi ∈ [(697, 5710), (770, 6308), (852, 6980), (941, 7709), (1209, 9904), (1336, 10945), (1477, 12100), (1633, 13378)],
      -4000 < (fi.1 : Int) * 65536 - fi.2 * 8000 ∧ (fi.1 : Int) * 65536 - fi.2 * 8000 < 4000)
  ∧ (∀ kv ∈ [(0, (0 : Int)), (10, 1990), (24, 4551), (32, 5792), (42, 7026), (43, 7127), (49, 7642), (64, 8191), (85, 7127)
      , (128, 0), (171, -7127), (192, -8191), (246, -1990)], sineEntry kv.1 = kv.2)
  ∧ (∀ k ≤ 64, sineEntry (128 - k) = sineEntry k) ∧ (∀ k ≤ 127, sineEntry (k + 128) = -sineEntry k)
  ∧ (∀ k < 64, sineEntry k < sineEntry (k + 1)) ∧ (∀ k < 256, -8191 ≤ sineEntry k ∧ sineEntry k ≤ 8191)
  ∧ ∀ ph : Half, tableIndex ph = ph.toNat / 256

/-- R117, R118, R120, R121, R124: a sender at a frame taken, and its sample: the full sum over 8192, truncated toward zero and
clamped. -/
def Obligations.SendersPlayAFrame : Prop :=
  ∀ (x : Sender),
    (x.state = .free → x.takeFrame = x ∧ x.sample = 0)
    ∧ (x.state = .toneOff → x.takeFrame = { x with elapsed := x.elapsed + 1 } ∧ x.sample = 0)
    ∧ ∀ (y : Symbol) (c : Captured) (low high : Half), x.state = .toneOn → x.symbol = some y → x.captured = some c →
        x.phases = some (low, high) →
        x.takeFrame = { x with elapsed := x.elapsed + 1, phases := some (low + lowIncrement y, high + highIncrement y) }
        ∧ x.sample.toInt = max (-32767) (min 32767
            (((c.aL : Int) * sineEntry (low.toNat / 256) + (c.aH : Int) * sineEntry (high.toNat / 256)).tdiv 8192))

/-- R125 to R131: the outgoing frame that a frame taken chooses: slots 48 to 63 copied, and each line's slot by its path mode.
That a frame that gives a tick carries the modes before that tick's events is the model's choice (assumption log 39). -/
def Obligations.OutgoingSlotsFollowThePathModes : Prop :=
  ∀ (s : State) (slots : List Half), s.ready → s.part.phasesCurrent → slots.length = 64 →
    (s.part.timeBase.state = .locked → 7 ≤ s.part.timeBase.divider → s.part.current) →
    ∃ t out, exec (.highwayFrame slots) s = .next t ∧ t.outgoing = some out ∧ out.length = 64
      ∧ (∀ n, 48 ≤ n → n < 64 → out[n]? = slots[n]?)
      ∧ ∀ l : LineId, out[l.val]? =
        (match (s.part.line l).sender with
        | some k => some (s.part.sender k).sample
        | none =>
          if (s.part.line l).state ∈ [LineState.parked, .quarantine]
              ∨ ((s.part.line l).state = .active ∧ (s.part.line l).pulseDialled = true) then some 0
          else slots[l.val]?)

/-! ### Settings -/

/-- R145: SET PROFILE changes the profile of one line, and reports it if it differs. That the ACK echoes the line, and not the
profile, is the model's choice (assumption log 33). -/
def Obligations.SetProfileMovesOneLine : Prop :=
  ∀ (s : State) (lk : LinkId) (l : LineId) (i : ProfileId), s.ready → s.part.takes lk →
    (s.part.line l).state ≠ .disabled →
    ((s.part.line l).profile = i → exec (.setProfile lk (lowChar l.val) (lowChar i.val)) s
      = .next (s.withPart (s.part.report lk (.ack 0x04 (some (lowChar l.val)) 0))))
    ∧ ((s.part.line l).profile ≠ i → exec (.setProfile lk (lowChar l.val) (lowChar i.val)) s = .next (s.withPart
        (((s.part.setLine l { s.part.line l with profile := i }).reportBoth
          (.lineProfileWritten l (s.part.line l).profile i lk)).report lk (.ack 0x04 (some (lowChar l.val)) 0))))

/-- R137, R136: what a WRITE PROFILE stores, field by field. -/
def Obligations.ProfileFieldsAreClamped : Prop :=
  ∀ r : RawProfile, clampProfile r =
    { pNom := max 55 (min 160 r.pNom.toNat)
      nominal := max 8 (min 127 r.nominal.toNat)
      seizeTime := max 20 (min 200 r.seizeTime.toNat)
      flashMin := max 170 (min 600 r.flashMin.toNat)
      clearTime := max (max 170 (min 600 r.flashMin.toNat) + 50) (min 2000 r.clearTime.toNat)
      firstDigitTime := max 5 (min 60 r.firstDigitTime.toNat)
      partialTime := max 5 (min 60 r.partialTime.toNat)
      settleTime := max 1 (min 60 r.settleTime.toNat)
      flapLimit := max 2 (min 15 r.flapLimit.toNat)
      convention := ⟨min 3 r.convention.toNat, by omega⟩
      seizeGate := if r.seizeGate = 1 then .open else .shut
      tOn := max 30 (min 250 r.tOn.toNat)
      tOff := max 30 (min 250 r.tOff.toNat)
      commit := max 10 (min (max 30 (min 250 r.tOn.toNat)) r.commit.toNat)
      aL := min 32767 r.aL.toNat
      aH := min 32767 r.aH.toNat }

/-- R140, R141, R142, R144, R191: a write of settings stores the record, reports it on both links and is answered with the
mask of what it changed (10.3); READ SETTINGS is answered with the record it names, or REJECT RANGE. -/
def Obligations.SettingsAreWrittenAndRead : Prop :=
  ∀ (s : State) (lk : LinkId), s.ready → s.part.takes lk →
    (∀ (i : ProfileId) (r : RawProfile) (q : Profile) (detail : Half), q = clampProfile r →
      (∀ n, detail.getLsbD n = [ decide (q.pNom ≠ r.pNom.toNat), decide (q.nominal ≠ r.nominal.toNat)
        , decide (q.seizeTime ≠ r.seizeTime.toNat), decide (q.flashMin ≠ r.flashMin.toNat)
        , decide (q.clearTime ≠ r.clearTime.toNat), decide (q.firstDigitTime ≠ r.firstDigitTime.toNat)
        , decide (q.partialTime ≠ r.partialTime.toNat), decide (q.settleTime ≠ r.settleTime.toNat)
        , decide (q.flapLimit ≠ r.flapLimit.toNat), decide (3 < r.convention.toNat), decide (1 < r.seizeGate.toNat)
        , decide (q.tOn ≠ r.tOn.toNat), decide (q.tOff ≠ r.tOff.toNat), decide (q.commit ≠ r.commit.toNat)
        , decide (q.aL ≠ r.aL.toNat), decide (q.aH ≠ r.aH.toNat) ].getD n false) →
      exec (.writeProfile lk (lowChar i.val) r) s = .next (s.withPart
        (((s.part.setProfile i q).reportBoth (.settingsWritten (.profile i q) lk)).report lk
          (.ack 0x11 (some (lowChar i.val)) detail))))
    ∧ (∀ (i : ConventionId) (es : Vector Byte 10) (stored : Convention) (detail : Half),
      (∀ n, stored.get n = if h : (es.get n).toNat < 16 then some ⟨(es.get n).toNat, h⟩ else none) →
      (∀ n, detail.getLsbD n = if h : n < 10 then
        decide (16 ≤ (es.get ⟨n, h⟩).toNat ∧ es.get ⟨n, h⟩ ≠ 0xFF) else false) →
      exec (.writeConvention lk (lowChar i.val) es) s = .next (s.withPart
        (((s.part.setConvention i stored).reportBoth (.settingsWritten (.convention i stored) lk)).report lk
          (.ack 0x12 (some (lowChar i.val)) detail))))
    ∧ (∀ (r : RawGlobals) (g : Globals) (detail : Half),
      g = ⟨max 250 (min 8000 r.auditPeriod.toNat) / 250 * 250, max 1 (min 16 r.runLimit.toNat),
        max 1 (min 32 r.lineCap.toNat)⟩ →
      (∀ n, detail.getLsbD n = [decide (g.auditPeriod ≠ r.auditPeriod.toNat), decide (g.runLimit ≠ r.runLimit.toNat),
        decide (g.lineCap ≠ r.lineCap.toNat)].getD n false) →
      exec (.writeGlobals lk r) s = .next (s.withPart
        ((({ s.part with globals := g } : Part).reportBoth (.settingsWritten (.globals g) lk)).report lk
          (.ack 0x13 none detail))))
    ∧ (∀ i : ProfileId, exec (.readSettings lk 1 (lowChar i.val)) s
      = .next (s.withPart (s.part.report lk (.profileReply (.profile i (s.part.profile i))))))
    ∧ (∀ i : ConventionId, exec (.readSettings lk 2 (lowChar i.val)) s
      = .next (s.withPart (s.part.report lk (.profileReply (.convention i (s.part.convention i))))))
    ∧ (∀ b : Byte, exec (.readSettings lk 3 b) s
      = .next (s.withPart (s.part.report lk (.profileReply (.globals s.part.globals)))))
    ∧ (∀ k b : Byte, (k = 1 ∧ 8 ≤ b.toNat) ∨ (k = 2 ∧ 4 ≤ b.toNat) ∨ (k ≠ 1 ∧ k ≠ 2 ∧ k ≠ 3) →
        exec (.readSettings lk k b) s
          = .next (s.withPart (s.part.report lk (.reject .range 0x14 (some k) 0 0 0))))

/-! ### Control links -/

/-- R155, R156, R158, R159: the 11 positions of a character, as they reach the assembler. All at spacing, they begin a break,
measured from the leading edge. That a 1 is at marking is taken from outside the spec (assumption log 34), and that a
first position at marking is no start bit is the model's choice (assumption log 3). -/
def Obligations.CharactersMoveTheAssembler : Prop :=
  ∀ (s : State) (lk : LinkId) (k : Link) (v : Vector WireLevel 10) (stop : WireLevel) (n : Fin 3) (data : Byte)
      (taken : Host.Outcome State Fault Refusal), s.ready → k = s.part.link lk → k.receiver = .listening →
    taken = exec (.characterTaken lk v stop n) s →
    (∀ i : Fin 8, data.getLsbD i.val = decide (v.get ⟨i.val + 1, by omega⟩ = .marking)) →
    (v.get 0 = .marking → taken = .next s)
    ∧ ((∀ i, v.get i = .spacing) → stop = .spacing →
        taken = .next (s.withPart (s.part.setLink lk { k with receiver := .breaking n.val })))
    ∧ (v.get 0 = .spacing → stop = .marking → k.assembler = .wait ∨ k.assembler = .skip →
        (v.get 9 = .spacing → taken = .next s)
        ∧ (v.get 9 = .marking → taken = .next (s.withPart (s.part.setLink lk { k with assembler := .collect data [] 0 }))))
    ∧ (v.get 0 = .spacing → stop = .spacing → (∃ i, v.get i = .marking) → k.assembler = .wait ∨ k.assembler = .skip →
        taken = .next s)
    ∧ ∀ (kind : Byte) (chars : List Byte) (m : Nat) (first : Option Byte), k.assembler = .collect kind chars m →
      ((chars.length ≤ 1 ∨ chars.head? = some 0) ∧ first = none
        ∨ ∃ len b more, len ≠ 0 ∧ chars = len :: b :: more ∧ first = some b) →
      (v.get 0 = .spacing → stop = .spacing → (∃ i, v.get i = .marking) → taken = .next (s.withPart
          (s.part.setLink lk { k with assembler := .wait, waiting := some (.error ⟨.framing, kind, first, 0⟩) })))
      ∧ (v.get 0 = .spacing → stop = .marking → v.get 9 = .marking → taken = .next (s.withPart
          (s.part.setLink lk { k with
            assembler := .collect data [] 0, waiting := some (.error ⟨.framing, kind, first, 0⟩) })))
      ∧ (v.get 0 = .spacing → stop = .marking → v.get 9 = .spacing →
        (chars = [] → 40 < data.toNat → taken = .next (s.withPart
          (s.part.setLink lk { k with assembler := .skip, waiting := some (.error ⟨.length, kind, none, data⟩) })))
        ∧ (chars = [] ∧ data.toNat ≤ 40 ∨ chars ≠ [] ∧ chars.length ≠ (chars.headD 0).toNat + 1 → taken = .next (s.withPart
            (s.part.setLink lk { k with assembler := .collect kind (chars ++ [data]) 0 })))
        ∧ (chars ≠ [] → chars.length = (chars.headD 0).toNat + 1 → taken = .next (s.withPart
            (s.part.setLink lk { k with
              assembler := .wait, waiting := some (judgeMessage lk kind (chars ++ [data])) }))))

/-- R160, R161, 10.2: how a complete message is judged. -/
def Obligations.MessagesAreJudgedInOrder : Prop :=
  (∀ (lk : LinkId) (kind check : Byte) (body : List Byte) (total : Nat), body.length ≤ 40 →
    total = kind.toNat + body.length + (body.map BitVec.toNat).sum + check.toNat →
    (total % 256 ≠ 0 → judgeMessage lk kind (lowChar body.length :: (body ++ [check]))
      = .error ⟨.check, kind, body.head?, 0⟩)
    ∧ (total % 256 = 0 → kind.toNat = 0 ∨ 20 < kind.toNat → judgeMessage lk kind (lowChar body.length :: (body ++ [check]))
      = .error ⟨.unknown, kind, body.head?, 0⟩)
    ∧ (∀ least most, total % 256 = 0 → commandLength kind = some (least, most) →
        body.length < least ∨ most < body.length → judgeMessage lk kind (lowChar body.length :: (body ++ [check]))
          = .error ⟨.length, kind, body.head?, lowChar body.length⟩))
  ∧ ∀ kind : Byte, commandLength kind = (if kind.toNat = 0 ∨ 20 < kind.toNat then none
      else some ([(2, 2), (2, 2), (1, 1), (2, 2), (1, 1), (1, 1), (1, 1), (1, 1), (1, 1), (1, 1), (1, 1), (1, 40), (1, 1)
        , (1, 1), (1, 1), (1, 1), (26, 26), (11, 11), (4, 4), (2, 2)].getD (kind.toNat - 1) (0, 0)))

/-- R155, R157, R158, R160, 10.2: the characters of a well-formed command's message, taken one after another from the wire,
leave that very command waiting and change nothing else; and its row then does what it does without them. That the judged
command waits for its row is the model's choice (assumption log 6). -/
def Obligations.CharactersSpellTheirCommand : Prop :=
  ∀ (s : State) (c : Instr) (lk : LinkId) (kind : Byte) (body : List Byte) (k : Link), s.ready → c.wellFormed = true →
    commandMessage c = some (lk, kind, body) → k = s.part.link lk → k.receiver = .listening →
    k.assembler = .wait ∨ k.assembler = .skip →
    ∃ t, execAll (charactersOn lk (envelope kind body)) s = .next t
      ∧ t = s.withPart (s.part.setLink lk { k with assembler := .wait, waiting := some (.command c) })
      ∧ exec c t = exec c (s.withPart (s.part.setLink lk { k with assembler := .wait }))

/-- R162, R171, R172: a receive error judged on a link, by the link's state; R159: the gap timer's expiry is one. -/
def Obligations.ReceiveErrorsAreJudgedByLinkState : Prop :=
  ∀ (s : State) (lk : LinkId) (k judged : Link) (e : ErrorInfo) (c : Instr), s.hold.held = false →
    (∀ l, (s.part.line l).decoder.tests = .made) → s.part.timeBase.lockingDue = false →
    (s.part.link lk.other).waiting = none → k = s.part.link lk →
    (k.waiting = some (.error e) ∧ c = .receiveError lk ∧ judged = { k with waiting := none }
      ∨ ∃ kind chars n, k.waiting = none ∧ k.assembler = .collect kind chars n ∧ 11 ≤ n ∧ c = .gapTimerExpiry lk
        ∧ (∀ m, k.receiver ≠ .breaking m) ∧ judged = { k with assembler := .wait }
        ∧ ((chars.length ≤ 1 ∨ chars.head? = some 0) ∧ e = ⟨.timeout, kind, none, 0⟩
          ∨ ∃ len b more, len ≠ 0 ∧ chars = len :: b :: more ∧ e = ⟨.timeout, kind, some b, 0⟩)) →
    (k.state = .alive → exec c s = .next (s.withPart
      ((s.part.setLink lk judged).report lk (.reject e.reason e.kind e.first e.length 0 0))))
    ∧ (k.state = .suspect → exec c s = .next (s.withPart
      ((s.part.setLink lk { judged with state := .failed, auditTimer := none, queue := [], lost := 0 }).report lk.other
        (.planeStatus lk .failed .suspect .receiveError))))
    ∧ (k.state = .failed → exec c s = .next (s.withPart (s.part.setLink lk judged)))

/-- R155, R156, R158, R174: the end of a short break returns the assembler to WAIT, and a message it cuts is a receive
error FRAMING, judged by the link's state; a long break restarts the link; the return to marking ends it. -/
def Obligations.BreaksEndMessagesAndRestartLinks : Prop :=
  ∀ (s : State) (lk : LinkId) (k : Link), s.ready → k = s.part.link lk →
    (∀ n, k.receiver = .breaking n → n < 20 → ∀ ended : Link,
      ended = { k with receiver := .listening, assembler := .wait } →
      ((∀ kind chars m, k.assembler ≠ .collect kind chars m) → exec (.shortBreak lk) s = .next (s.withPart
        (s.part.setLink lk ended)))
      ∧ (∀ kind chars m first, k.assembler = .collect kind chars m →
        ((chars.length ≤ 1 ∨ chars.head? = some 0) ∧ first = none
          ∨ ∃ len b more, len ≠ 0 ∧ chars = len :: b :: more ∧ first = some b) →
        (k.state = .alive → exec (.shortBreak lk) s = .next (s.withPart
          ((s.part.setLink lk ended).report lk (.reject .framing kind first 0 0 0))))
        ∧ (k.state = .suspect → exec (.shortBreak lk) s = .next (s.withPart
          ((s.part.setLink lk { ended with state := .failed, auditTimer := none, queue := [], lost := 0 }).report
            lk.other (.planeStatus lk .failed .suspect .receiveError))))
        ∧ (k.state = .failed → exec (.shortBreak lk) s = .next (s.withPart (s.part.setLink lk ended)))))
    ∧ (∀ n, k.receiver = .breaking n → 20 ≤ n → exec (.longBreak lk) s = .next (s.withPart
      (((s.part.setLink lk { k with
          state := .alive, challenge := stampOf s.part.timeBase.lineTime
          auditTimer := some s.part.globals.auditPeriod, queue := [], lost := 0, assembler := .wait, receiver := .deaf
        }).report lk (.linkStart .restart s.part.timeBase.resetCause (stampOf s.part.timeBase.lineTime)
          s.part.timeBase.state s.part.scan.state)).report lk.other (.planeStatus lk .alive k.state .restart))))
    ∧ (k.receiver = .deaf → exec (.returnToMarking lk) s = .next (s.withPart
      (s.part.setLink lk { k with receiver := .listening, assembler := .wait })))

/-- R168, R169, R170, R171, R173, R176: AUDIT and the audit timer. -/
def Obligations.AuditsAndTheirTimer : Prop :=
  ∀ (s : State) (lk : LinkId) (ch : Half) (k : Link) (period : Nat), s.ready → k = s.part.link lk →
    period = s.part.globals.auditPeriod →
    (k.state = .alive → ch = k.challenge → exec (.audit lk ch) s = .next (s.withPart
      ((s.part.setLink lk { k with auditTimer := some period, challenge := ch + 1 }).report lk
        (.auditReply (ch + 1) true))))
    ∧ (k.state = .suspect → ch = k.challenge → exec (.audit lk ch) s = .next (s.withPart
      ((((s.part.setLink lk { k with state := .alive, auditTimer := some period, challenge := ch + 1 }).report lk
        (.planeStatus lk .alive .suspect .audit)).report lk.other (.planeStatus lk .alive .suspect .audit)).report lk
          (.auditReply (ch + 1) true))))
    ∧ (k.state ≠ .failed → ch ≠ k.challenge → exec (.audit lk ch) s
        = .next (s.withPart (s.part.report lk (.auditReply k.challenge false))))
    ∧ (k.state = .failed → exec (.audit lk ch) s = .next (s.withPart
      (((s.part.setLink lk { k with
          state := .alive, challenge := stampOf s.part.timeBase.lineTime, auditTimer := some period, queue := [], lost := 0
        }).report lk (.linkStart .restored s.part.timeBase.resetCause (stampOf s.part.timeBase.lineTime)
          s.part.timeBase.state s.part.scan.state)).report lk.other (.planeStatus lk .alive .failed .restored))))
    ∧ (k.state = .alive → k.auditTimer = some 0 → exec (.auditTimerExpiry lk) s = .next (s.withPart
      (((s.part.setLink lk { k with state := .suspect, auditTimer := some period }).report lk
        (.planeStatus lk .suspect .alive .auditExpiry)).report lk.other (.planeStatus lk .suspect .alive .auditExpiry))))
    ∧ (k.state = .suspect → k.auditTimer = some 0 → exec (.auditTimerExpiry lk) s = .next (s.withPart
      ((s.part.setLink lk { k with state := .failed, auditTimer := none, queue := [], lost := 0 }).report lk.other
        (.planeStatus lk .failed .suspect .auditExpiry))))

/-- R172: on a FAILED link every command but AUDIT is ignored, without an answer. -/
def Obligations.FailedLinksCommandsAreIgnored : Prop :=
  ∀ (s : State) (c : Instr) (lk : LinkId) (kind : Byte) (body : List Byte), s.ready →
    commandMessage c = some (lk, kind, body) → kind ≠ 0x01 → (s.part.link lk).state = .failed → exec c s = .next s

/-- R163, R164, R165: a report reaches a link's queue; R46: a PULSE TRACE is queued exactly for a line that holds a trace slot
and is in ACTIVE or CONVERSE. -/
def Obligations.ReportQueuesHold128 : Prop :=
  ∀ (p : Part) (body : ReportBody),
    (∀ (lk : LinkId) (k : Link), k = p.link lk →
      (k.state = .failed → p.report lk body = p)
      ∧ (k.state ≠ .failed → k.queue.length < 128 → p.report lk body
          = p.setLink lk { k with queue := k.queue ++ [⟨stampOf p.timeBase.lineTime, body⟩] })
      ∧ (k.state ≠ .failed → 128 ≤ k.queue.length → p.report lk body
          = p.setLink lk { k with lost := if k.lost < 65535 then k.lost + 1 else 65535 }))
    ∧ p.reportBoth body = (p.report .a body).report .b body
    ∧ ∀ (l : LineId) (polarity : Loop) (duration : Nat) (v : Verdict), body = .pulseTrace l polarity duration v →
      ((p.line l).trace ≠ none → (p.line l).state = .active ∨ (p.line l).state = .converse →
        p.traceReport l polarity duration v = p.reportBoth body)
      ∧ ((p.line l).trace = none ∨ ((p.line l).state ≠ .active ∧ (p.line l).state ≠ .converse) →
        p.traceReport l polarity duration v = p)

/-- R166, R167, R157, R155: the transmission of a report, as levels on the wire; and the kind and body of every report but LINE
REPLY, which is `QueryLineAnswersTheRecord` (10.3, 10.4, 10.5, R190). That a 1 is at marking is taken from outside the
spec (assumption log 34). -/
def Obligations.TransmissionsTakeTheHead : Prop :=
  (∀ (s : State) (lk : LinkId) (k : Link), s.ready → k = s.part.link lk →
    (∀ r rest, k.sending = none → k.queue = r :: rest → ∃ m : List WireChar,
      exec (.reportTransmissionStart lk true) s
        = .next (s.withPart (s.part.setLink lk { k with
            queue := rest
            sending := some (m.flatMap (fun ch => .spacing ::
              ((List.range 8).map (fun i => if ch.data.getLsbD i then .marking else .spacing)
                ++ [if ch.marked then .marking else .spacing, .marking]))) }))
      ∧ m.map (fun ch => ch.data) = [r.body.kind, lowChar (chars2H r.stamp ++ r.body.chars).length]
          ++ (chars2H r.stamp ++ r.body.chars) ++ [(m.getLastD ⟨0, false⟩).data]
      ∧ (m.map (fun ch => ch.data.toNat)).sum % 256 = 0
      ∧ m.map (fun ch => ch.marked) = true :: List.replicate (m.length - 1) false)
    ∧ (∀ ready, k.sending ≠ none ∨ k.queue = [] ∨ ready = false → exec (.reportTransmissionStart lk ready) s = .next s)
    ∧ (k.sending ≠ none → k.lost = 0 ∨ 128 ≤ k.queue.length → exec (.reportTransmissionComplete lk) s
        = .next (s.withPart (s.part.setLink lk { k with sending := none })))
    ∧ (k.sending ≠ none → 0 < k.lost → k.queue.length < 128 → exec (.reportTransmissionComplete lk) s
        = .next (s.withPart (s.part.setLink lk { k with
            sending := none, lost := 0, queue := k.queue ++ [⟨stampOf s.part.timeBase.lineTime, .lost k.lost⟩] }))))
  ∧ (∀ (two : Nat → List Nat) (rec : Profile → List Nat) (entries : Convention → List Nat) (shared : Globals → List Nat)
      (lays : ReportBody → Nat → List Nat → Prop),
    (∀ n, two n = [n % 256, n / 256 % 256]) →
    (∀ r, rec r = two r.pNom ++ [r.nominal % 256] ++ two r.seizeTime ++ two r.flashMin ++ two r.clearTime
      ++ [r.firstDigitTime % 256, r.partialTime % 256, r.settleTime % 256, r.flapLimit % 256, r.convention.val
        , r.seizeGate.code.toNat] ++ two r.tOn ++ two r.tOff ++ two r.commit ++ two r.aL ++ two r.aH) →
    (∀ r, entries r = r.toList.map (fun e => match e with | none => 255 | some y => y.val)) →
    (∀ g, shared g = two g.auditPeriod ++ [g.runLimit % 256, g.lineCap % 256]) →
    (∀ b kind cs, lays b kind cs ↔ b.kind.toNat = kind ∧ b.chars.map BitVec.toNat = cs) →
    (∀ why cause ch tb sc, lays (.linkStart why cause ch tb sc) 0x41
      ([why.code.toNat, cause.code.toNat] ++ two ch.toNat ++ [tb.code.toNat, sc.code.toNat]))
    ∧ (∀ ch ok, lays (.auditReply ch ok) 0x42 (two ch.toNat ++ [if ok then 1 else 0]))
    ∧ (∀ kind index detail, lays (.ack kind index detail) 0x43
      ([kind.toNat, (match index with | none => 255 | some i => i.toNat)] ++ two detail.toNat))
    ∧ (∀ why kind first len free room, lays (.reject why kind first len free room) 0x44
      ([why.code.toNat, kind.toNat] ++ (match first with | none => [0, 0] | some b => [1, b.toNat]) ++ [len.toNat]
        ++ two free ++ [room % 256]))
    ∧ (∀ l new old g why lk n, lays (.lineState l new old g why lk n) 0x45
      [l.val, new.code.toNat, old.code.toNat, g.code.toNat, why.code.toNat, (linkCode lk).toNat, n % 256])
    ∧ (∀ l d st, lays (.flash l d st) 0x46 ([l.val] ++ two d ++ [st.code.toNat]))
    ∧ (∀ l y from' n mean conv i lk, lays (.digit l y from' n mean conv i lk) 0x47
      ([l.val, y.val, from'.code.toNat, n.getD 0 % 256] ++ two (mean.getD 0)
        ++ [(match conv with | none => 255 | some c => c.val), i % 256, (linkCode lk).toNat]))
    ∧ (∀ l why n conv, lays (.digitError l why n conv) 0x48 [l.val, why.code.toNat, n % 256, conv.val])
    ∧ (∀ l why y i len free, lays (.digitLost l why y i len free) 0x49
      ([l.val, why.code.toNat, y.val, i % 256, len % 256] ++ two free))
    ∧ (∀ l k m c, lays (.digitSent l k m c) 0x4A
      ([l.val, k.val, m.code.toNat, c.symbol.val, c.origin.code.toNat, c.pulseCount.getD 0 % 256] ++ two (c.mean.getD 0)
        ++ [c.index % 256] ++ two c.stamp.toNat))
    ∧ (∀ l old new lc lo n, lays (.classChange l old new lc lo n) 0x4B
      ([l.val, old.code.toNat, new.code.toNat] ++ two lc ++ two lo ++ [n % 256]))
    ∧ (∀ l pol d v, lays (.pulseTrace l pol d v) 0x4C ([l.val, pol.code.toNat] ++ two d ++ [v.code.toNat]))
    ∧ (∀ i r, lays (.profileReply (.profile i r)) 0x4E ([1, i.val] ++ rec r))
    ∧ (∀ i r, lays (.profileReply (.convention i r)) 0x4E ([2, i.val] ++ entries r))
    ∧ (∀ g, lays (.profileReply (.globals g)) 0x4E ([3, 0] ++ shared g))
    ∧ (∀ lk new old why, lays (.planeStatus lk new old why) 0x4F
      [(linkCode (some lk)).toNat, new.code.toNat, old.code.toNat, why.code.toNat])
    ∧ (∀ new old n m, lays (.clock new old n m) 0x50 [new.code.toNat, old.code.toNat, n % 256, m % 256])
    ∧ (∀ st, lays (.scan st) 0x51 [st.code.toNat])
    ∧ (∀ i r lk, lays (.settingsWritten (.profile i r) lk) 0x52 ([1, i.val, (linkCode (some lk)).toNat] ++ rec r))
    ∧ (∀ i r lk, lays (.settingsWritten (.convention i r) lk) 0x52 ([2, i.val, (linkCode (some lk)).toNat] ++ entries r))
    ∧ (∀ g lk, lays (.settingsWritten (.globals g) lk) 0x52 ([3, 0, (linkCode (some lk)).toNat] ++ shared g))
    ∧ (∀ l old new lk, lays (.lineProfileWritten l old new lk) 0x52
      [4, l.val, (linkCode (some lk)).toNat, old.val, new.val])
    ∧ ∀ n, lays (.lost n) 0x53 (two n))
  ∧ [LineState.disabled, .idle, .seizing, .active, .converse, .parked, .quarantine].map LineState.code = [0, 1, 2, 3, 4, 5, 6]
  ∧ [LineClass.clean, .damp, .weak, .fault].map LineClass.code = [0, 1, 2, 3]
  ∧ [Loop.open, Loop.closed].map Loop.code = [0, 1] ∧ [Gate.shut, Gate.open].map Gate.code = [0, 1]
  ∧ [none, some LinkId.a, some .b].map linkCode = [0, 1, 2]
  ∧ [LineCause.enable, .disable, .seize, .clear, .firstDigit, .partialDial, .park, .converse, .resume, .restored, .flap
      , .fault, .settled, .openGate, .shutGate, .withdraw].map LineCause.code
    = [1, 2, 3, 4, 5, 6, 7, 8, 9, 10, 11, 12, 13, 14, 15, 16]
  ∧ [DigitErrorReason.mutilated, .overcount, .unmapped, .broken, .scan].map DigitErrorReason.code = [1, 2, 3, 4, 5]
  ∧ [LossReason.line, .pool].map LossReason.code = [1, 2] ∧ [Origin.dialled, .injected].map Origin.code = [0, 1]
  ∧ [Manner.endOfTone, .atAbort].map Manner.code = [0, 1]
  ∧ [Verdict.pulse, .invalid, .flash, .absorbed, .make, .gap, .clear].map Verdict.code = [1, 2, 3, 4, 5, 6, 7]
  ∧ [RejectReason.framing, .check, .length, .unknown, .timeout, .range, .state, .busy, .noRoom].map RejectReason.code
    = [1, 2, 3, 4, 5, 6, 7, 8, 9]
  ∧ [LinkState.alive, .suspect, .failed].map LinkState.code = [0, 1, 2]
  ∧ [PlaneCause.auditExpiry, .audit, .receiveError, .restored, .restart].map PlaneCause.code = [1, 2, 3, 4, 5]
  ∧ [StartReason.partReset, .restart, .restored].map StartReason.code = [1, 2, 3]
  ∧ [ResetCause.powerOn, .lowSupply, .external].map ResetCause.code = [1, 2, 3]
  ∧ [TimeBaseState.locking, .locked, .fallback].map TimeBaseState.code = [0, 1, 2]
  ∧ [ScanState.running, .lost].map ScanState.code = [0, 1]

/-! ### Time base -/

/-- R178, R181, R1, R14, R49, R156, R159, R168: an oscillator mark in LOCKING or FALLBACK, with nothing overdue and no scan
frame cut short, gives a tick: line time, every timer, and the strobe; and what a tick does to a link: its audit timer
falls by one, and its break count rises by one, or else its gap timer, which stands in a break (assumption log 24). -/
def Obligations.OscillatorMarkGivesATick : Prop :=
  (∀ k : Link,
    (∀ n, k.receiver = .breaking n →
      k.tick = { k with auditTimer := k.auditTimer.map (fun t => t - 1), receiver := .breaking (n + 1) })
    ∧ ((∀ n, k.receiver ≠ .breaking n) →
      (∀ kind chars n, k.assembler = .collect kind chars n →
        k.tick = { k with auditTimer := k.auditTimer.map (fun t => t - 1), assembler := .collect kind chars (n + 1) })
      ∧ (k.assembler = .wait ∨ k.assembler = .skip →
        k.tick = { k with auditTimer := k.auditTimer.map (fun t => t - 1) })))
  ∧ ∀ (s : State) (t : LineTime), s.ready → s.part.current → s.part.timeBase.state ≠ .locked →
    s.part.timeBase.watchdog = none ∨ s.part.timeBase.watchdog = some 0 →
    s.part.scan.period = none ∨ s.part.scan.received.length = 49 → t = s.part.timeBase.lineTime + 1 →
    exec .oscillatorMillisecond s = .next (s.withPart { s.part with
      timeBase := { s.part.timeBase with
        lineTime := t
        watchdog := s.part.timeBase.watchdog.map (fun _ => 1)
        reviewDue := decide (t.toNat % 256 = 0)
        lockingDue := decide (s.part.timeBase.state = .locking ∧ t = 250) }
      lines := (match s.part.scan.state with
        | .running => Vector.ofFn (fun l => { s.part.line l with
            timer := (s.part.line l).timer.map (fun x => { x with remaining := x.remaining - 1 }) })
        | .lost => s.part.lines)
      linkA := s.part.linkA.tick
      linkB := s.part.linkB.tick
      scan := { s.part.scan with period := some t, received := [] } })

/-- R179, R180, R124, R125: in LOCKED a frame taken counts, and the eighth gives a tick. The outgoing frame is
`OutgoingSlotsFollowThePathModes`. -/
def Obligations.FramesInLockedCountToTheTick : Prop :=
  ∀ (s : State) (slots : List Half) (t : LineTime), s.ready → s.part.phasesCurrent → slots.length = 64 →
    s.part.timeBase.state = .locked → t = s.part.timeBase.lineTime + 1 →
    (s.part.timeBase.divider < 7 → ∃ out, exec (.highwayFrame slots) s = .next { s with
      outgoing := some out
      part := { s.part with
        senders := Vector.ofFn (fun k => (s.part.sender k).takeFrame)
        timeBase := { s.part.timeBase with watchdog := some 0, divider := s.part.timeBase.divider + 1 } } })
    ∧ (7 ≤ s.part.timeBase.divider → s.part.current → s.part.scan.period = none ∨ s.part.scan.received.length = 49 →
      ∃ out, exec (.highwayFrame slots) s = .next { s with
        outgoing := some out
        part := { s.part with
          senders := Vector.ofFn (fun k => (s.part.sender k).takeFrame)
          timeBase := { s.part.timeBase with
            lineTime := t, watchdog := some 0, divider := 0, reviewDue := decide (t.toNat % 256 = 0), lockingDue := false }
          lines := (match s.part.scan.state with
            | .running => Vector.ofFn (fun l => { s.part.line l with
                timer := (s.part.line l).timer.map (fun x => { x with remaining := x.remaining - 1 }) })
            | .lost => s.part.lines)
          linkA := s.part.linkA.tick
          linkB := s.part.linkB.tick
          scan := { s.part.scan with period := some t, received := [] } } })

/-- R182, R185, R186, R114, R180: outside LOCKED a frame taken raises the run count, and the 128th enters LOCKED, reports it
and makes the grant test. -/
def Obligations.FramesOutsideLockedCountToLocked : Prop :=
  ∀ (s : State) (slots : List Half), s.ready → s.part.phasesCurrent → slots.length = 64 →
    s.part.timeBase.state ≠ .locked →
    (s.part.timeBase.runCount < 127 → ∃ out, exec (.highwayFrame slots) s = .next { s with
      outgoing := some out
      part := { s.part with
        senders := Vector.ofFn (fun k => (s.part.sender k).takeFrame)
        timeBase := { s.part.timeBase with watchdog := some 0, runCount := s.part.timeBase.runCount + 1 } } })
    ∧ (127 ≤ s.part.timeBase.runCount → ∃ out, exec (.highwayFrame slots) s = .next { s with
      outgoing := some out
      part := (({ s.part with
          senders := Vector.ofFn (fun k => (s.part.sender k).takeFrame)
          timeBase := { s.part.timeBase with watchdog := some 0, runCount := 0, divider := 0, state := .locked } }
        : Part).reportBoth (.clock .locked s.part.timeBase.state 0 s.part.grantQueue.length)).grantTest })

/-- R179, R180, R181, R183, R186: a short frame changes nothing; the frame watchdog outside LOCKED clears the run count; an
expiry after a frame taken in LOCKED, with no tick or mark between, does nothing; an oscillator mark in LOCKED gives no
tick, and one that finds the watchdog overdue takes its expiry first (the model's choice, assumption log 27); the LOCKING
timeout enters FALLBACK and keeps the run count. -/
def Obligations.FrameAndLockingTimeouts : Prop :=
  ∀ s : State,
    (s.ready → exec .shortFrame s = .next s
      ∧ (∀ slots : List Half, slots.length < 64 → exec (.highwayFrame slots) s = .next s)
      ∧ ((∃ n, s.part.timeBase.watchdog = some (n + 1)) → s.part.timeBase.state ≠ .locked → exec .frameWatchdogExpiry s
        = .next (s.withPart { s.part with timeBase := { s.part.timeBase with watchdog := none, runCount := 0 } }))
      ∧ (s.part.timeBase.watchdog = some 0 → s.part.timeBase.state = .locked → exec .oscillatorMillisecond s
        = .next (s.withPart { s.part with timeBase := { s.part.timeBase with watchdog := some 1 } }))
      ∧ (∀ slots t, s.part.phasesCurrent → s.part.timeBase.state = .locked → s.part.timeBase.divider < 7 → slots.length = 64 →
        exec (.highwayFrame slots) s = .next t → exec .frameWatchdogExpiry t = .next t)
      ∧ ∀ n t, s.part.timeBase.watchdog = some (n + 1) → exec .frameWatchdogExpiry s = .next t →
        exec .oscillatorMillisecond s = exec .oscillatorMillisecond t)
    ∧ (s.hold.held = false → (∀ l, (s.part.line l).decoder.tests = .made) → s.part.timeBase.lockingDue = true →
      (s.part.timeBase.state = .locking → exec .lockingTimeout s = .next (s.withPart
        (({ s.part with timeBase := { s.part.timeBase with lockingDue := false, state := .fallback } } : Part).reportBoth
          (.clock .fallback .locking 0 s.part.grantQueue.length))))
      ∧ (s.part.timeBase.state ≠ .locking → exec .lockingTimeout s = .next (s.withPart
        { s.part with timeBase := { s.part.timeBase with lockingDue := false } })))

/-- R184, R113, R109, R186: the watchdog's expiry in LOCKED enters FALLBACK with a tick and aborts every sender, in sender
order: a cell at or past its commit point is committed and reported, one short of it is restored. Lines that are then
eligible join the grant queue in sender order, and CLOCK comes last. The state after it is given whole. -/
def Obligations.LossOfFramesAbortsEverySender : Prop :=
  ∀ (s : State) (now : LineTime) (ticked : Part) (sent : SenderId → Option ReportBody) (left : LineId → Line)
      (joined : List LineId) (busy : Nat),
    s.ready → s.part.phasesCurrent → s.part.current → s.part.supervisionKept → s.part.sendersKept →
    s.part.timeBase.state = .locked → (∃ n, s.part.timeBase.watchdog = some (n + 1)) →
    s.part.scan.period = none ∨ s.part.scan.received.length = 49 → now = s.part.timeBase.lineTime + 1 →
    ticked = { s.part with
      timeBase := { s.part.timeBase with
        state := .fallback, lineTime := now, divider := 0, runCount := 0, watchdog := none
        reviewDue := decide (now.toNat % 256 = 0), lockingDue := false }
      scan := { s.part.scan with period := some now, received := [] }
      linkA := s.part.linkA.tick
      linkB := s.part.linkB.tick } →
    (∀ k, sent k = (match (s.part.sender k).state, (s.part.sender k).line, (s.part.sender k).captured with
      | .toneOn, some l, some c =>
        (match (s.part.line l).queue with
        | y :: _ => if 8 * c.commit ≤ (s.part.sender k).elapsed then some (.digitSent l k .atAbort y) else none
        | [] => none)
      | _, _, _ => none)) →
    (∀ l (timer : Option Timer),
      timer = (match s.part.scan.state with
        | .running => (s.part.line l).timer.map (fun t => { t with remaining := t.remaining - 1 })
        | .lost => (s.part.line l).timer) →
      left l = (match (s.part.line l).sender with
        | none => { s.part.line l with timer := timer }
        | some k => { s.part.line l with
            timer := timer, sender := none, runCount := 0
            queue := (match (s.part.sender k).state, (s.part.line l).queue with
              | .toneOn, y :: rest => if sent k = none then { y with sending := false } :: rest else rest
              | _, cells => cells) })) →
    joined = allSenders.filterMap (fun k => (s.part.sender k).line.filter (fun l =>
      decide ((left l).state = .active ∧ (left l).gate = .open ∧ (left l).queue.head?.map Cell.sending = some false))) →
    busy = (allSenders.filter (fun k => decide ((s.part.sender k).state ≠ .free))).length →
    exec .frameWatchdogExpiry s = .next (s.withPart
      { ((allSenders.filterMap sent).foldl Part.reportBoth ticked).reportBoth
          (.clock .fallback .locked busy (s.part.grantQueue.length + joined.length)) with
        lines := Vector.ofFn left
        senders := Vector.replicate 8 Sender.freed
        free := s.part.free + (allSenders.filterMap sent).length
        grantQueue := s.part.grantQueue ++ joined })

/-! ### What every step keeps -/

/-- R11: for every line, 0 ≤ Lo ≤ Lc ≤ 2032. Every step keeps it, with the sample and profile ranges it rests on. -/
def Obligations.LevelsStayInOrder : Prop := KeptByEveryStep Part.levelsKept

/-- R37, R136, R139: every period estimate is from 880 to 2560, and every settings record in its ranges. Every step keeps
both. -/
def Obligations.PeriodsAndSettingsStayInRange : Prop :=
  KeptByEveryStep Part.periodsKept ∧ KeptByEveryStep Part.settingsKept

/-- R74, R76: free cells and queued cells make 256, and no queue holds more than 32. Every step keeps it. -/
def Obligations.EveryCellIsAccountedFor : Prop := KeptByEveryStep Part.poolKept

/-- R163, R165, R168, R171: a link's queue holds at most 128 reports and its lost count at most 65535, and a FAILED link has
no audit timer and an empty queue. Every step keeps it. -/
def Obligations.LinksStayWithinTheirBounds : Prop := KeptByEveryStep Part.linksKept

/-- R49, R59, R93, R94, R96, R112: only an ACTIVE line holds cells, a sender or a place in the grant queue; and with that,
lines and senders name each other and every sender outside LOCKED is FREE. Every step keeps both. -/
def Obligations.LinesAndSendersNameEachOther : Prop :=
  KeptByEveryStep Part.supervisionKept ∧ KeptByEveryStep (fun p => p.supervisionKept ∧ p.sendersKept)

/-- The machine after reset is ready, has nothing overdue, and meets every predicate that steps keep. -/
def Obligations.ResetMeetsTheInvariants : Prop :=
  State.reset.ready ∧ State.reset.part.current ∧ State.reset.part.phasesCurrent ∧ State.reset.part.levelsKept
    ∧ State.reset.part.periodsKept ∧ State.reset.part.settingsKept ∧ State.reset.part.poolKept
    ∧ State.reset.part.linksKept ∧ State.reset.part.supervisionKept ∧ State.reset.part.sendersKept

end
end

