-- ==== Sys2Proof/Laws/Arithmetic.lean ====
section
/-!
SUPPORT. The small arithmetic of the part, each function said once: clamping (R137), masks (10.3), level tracking
(R11), and the sum of a message (R157).
-/

namespace Sys2Proof.Machine

theorem clampTo_eq (least most n : Nat) (h : least ≤ most) : clampTo least most n = max least (min most n) := by
  unfold clampTo
  split
  · omega
  · split <;> omega

theorem clampTo_bounds (least most n : Nat) (h : least ≤ most) : least ≤ clampTo least most n ∧ clampTo least most n ≤ most := by
  rw [clampTo_eq _ _ _ h]
  omega

/-- Bit `n` of a mask is the n-th truth value. -/
theorem maskOf_testBit (bs : List Bool) (n : Nat) : (maskOf bs).testBit n = bs.getD n false := by
  induction bs generalizing n with
  | nil => simp [maskOf]
  | cons b bs ih =>
    cases n with
    | zero => cases b <;> simp [maskOf, Nat.testBit_zero]
    | succ n =>
      rw [Nat.testBit_succ]
      have : maskOf (b :: bs) / 2 = maskOf bs := by
        change ((if b then 1 else 0) + 2 * maskOf bs) / 2 = maskOf bs
        cases b
        · simp
        · simp
          omega
      rw [this, ih]
      simp

/-- A tracked level lies between the level and the sample it moves to. -/
theorem trackLevel_between (level target : Nat) :
    min level target ≤ trackLevel level target ∧ trackLevel level target ≤ max level target := by
  unfold trackLevel
  rcases Nat.le_total level target with h | h
  · have e : (Int.ofNat target - Int.ofNat level).tdiv 8 = Int.ofNat ((target - level) / 8) := by
      have : Int.ofNat target - Int.ofNat level = Int.ofNat (target - level) := by
        simp only [Int.ofNat_eq_natCast]
        omega
      rw [this]
      rfl
    rw [e]
    simp only [Int.ofNat_eq_natCast]
    omega
  · have e : (Int.ofNat target - Int.ofNat level).tdiv 8 = -Int.ofNat ((level - target) / 8) := by
      have : Int.ofNat target - Int.ofNat level = -Int.ofNat (level - target) := by
        simp only [Int.ofNat_eq_natCast]
        omega
      rw [this, Int.neg_tdiv]
      rfl
    rw [e]
    simp only [Int.ofNat_eq_natCast]
    omega

/-- A sum of data values, folded from a start. -/
theorem foldl_add_start (bs : List Byte) (b : Byte) : bs.foldl (· + ·) b = b + sumOf bs := by
  unfold sumOf
  induction bs generalizing b with
  | nil => simp
  | cons c cs ih =>
    rw [List.foldl_cons, List.foldl_cons, ih, ih (0 + c), zero_add, BitVec.add_assoc]

theorem sumOf_cons (b : Byte) (bs : List Byte) : sumOf (b :: bs) = b + sumOf bs := by
  conv => lhs; unfold sumOf
  rw [List.foldl_cons, zero_add, foldl_add_start]

theorem sumOf_append (as bs : List Byte) : sumOf (as ++ bs) = sumOf as + sumOf bs := by
  induction as with
  | nil => simp [sumOf]
  | cons a as ih => rw [List.cons_append, sumOf_cons, sumOf_cons, ih, BitVec.add_assoc]

/-- The data values of a message sum to 0 (R157). -/
theorem envelope_sum (kind : Byte) (body : List Byte) : sumOf ((envelope kind body).map WireChar.data) = 0 := by
  unfold envelope
  simp only [List.map_cons, List.map_map, List.cons_append, List.map_append, List.map_nil]
  have : (WireChar.data ∘ fun b => (⟨b, false⟩ : WireChar)) = id := rfl
  rw [this, List.map_id, sumOf_cons, sumOf_cons, sumOf_append, sumOf_cons]
  simp only [sumOf, List.foldl_nil]
  generalize List.foldl (· + ·) 0 body = s
  bv_omega

end Sys2Proof.Machine
end

