-- ==== Sys2Proof/Laws/Vectors.lean ====
section
/-!
SUPPORT. Reading a vector by a Fin after it was written or built: the record arrays of the part are read with
`Vector.get` and written with `Vector.set`.
-/

namespace Sys2Proof.Laws

variable {α : Type} {n : Nat}

theorem get_set_self (v : Vector α n) (i : Fin n) (x : α) : (v.set i.val x i.isLt).get i = x := by
  change (v.set i.val x i.isLt)[i.val] = x
  simp

theorem get_set_ne (v : Vector α n) (i j : Fin n) (x : α) (h : j ≠ i) :
    (v.set i.val x i.isLt).get j = v.get j := by
  change (v.set i.val x i.isLt)[j.val] = v[j.val]
  exact Vector.getElem_set_ne _ _ (fun e => h (Fin.ext e.symm))

theorem get_ofFn (f : Fin n → α) (i : Fin n) : (Vector.ofFn f).get i = f i := by
  change (Vector.ofFn f)[i.val] = _
  simp

theorem get_replicate (a : α) (i : Fin n) : (Vector.replicate n a).get i = a := by
  change (Vector.replicate n a)[i.val] = _
  simp

/-- Vectors that read the same everywhere are equal. -/
theorem ext_get (v w : Vector α n) (h : ∀ i, v.get i = w.get i) : v = w :=
  Vector.ext (fun i hi => h ⟨i, hi⟩)

end Sys2Proof.Laws
end

