-- ==== Sys2Proof/Laws/State.lean ====
section
/-!
SUPPORT. One lemma per field per update of the part, and what reading gives after an update, so that no
later proof unfolds a record update.
-/

set_option Elab.async false

namespace Sys2Proof.Machine

/-! ### setLine -/

@[simp] theorem Part.setLine_timeBase (p : Part) (l : LineId) (x : Line) : (p.setLine l x).timeBase = p.timeBase := rfl
@[simp] theorem Part.setLine_scan (p : Part) (l : LineId) (x : Line) : (p.setLine l x).scan = p.scan := rfl
@[simp] theorem Part.setLine_traceSlots (p : Part) (l : LineId) (x : Line) : (p.setLine l x).traceSlots = p.traceSlots := rfl
@[simp] theorem Part.setLine_free (p : Part) (l : LineId) (x : Line) : (p.setLine l x).free = p.free := rfl
@[simp] theorem Part.setLine_grantQueue (p : Part) (l : LineId) (x : Line) : (p.setLine l x).grantQueue = p.grantQueue := rfl
@[simp] theorem Part.setLine_senders (p : Part) (l : LineId) (x : Line) : (p.setLine l x).senders = p.senders := rfl
@[simp] theorem Part.setLine_profiles (p : Part) (l : LineId) (x : Line) : (p.setLine l x).profiles = p.profiles := rfl
@[simp] theorem Part.setLine_conventions (p : Part) (l : LineId) (x : Line) : (p.setLine l x).conventions = p.conventions := rfl
@[simp] theorem Part.setLine_globals (p : Part) (l : LineId) (x : Line) : (p.setLine l x).globals = p.globals := rfl
@[simp] theorem Part.setLine_linkA (p : Part) (l : LineId) (x : Line) : (p.setLine l x).linkA = p.linkA := rfl
@[simp] theorem Part.setLine_linkB (p : Part) (l : LineId) (x : Line) : (p.setLine l x).linkB = p.linkB := rfl

/-! ### updLine -/

@[simp] theorem Part.updLine_timeBase (p : Part) (l : LineId) (f : Line → Line) : (p.updLine l f).timeBase = p.timeBase := rfl
@[simp] theorem Part.updLine_scan (p : Part) (l : LineId) (f : Line → Line) : (p.updLine l f).scan = p.scan := rfl
@[simp] theorem Part.updLine_traceSlots (p : Part) (l : LineId) (f : Line → Line) : (p.updLine l f).traceSlots = p.traceSlots := rfl
@[simp] theorem Part.updLine_free (p : Part) (l : LineId) (f : Line → Line) : (p.updLine l f).free = p.free := rfl
@[simp] theorem Part.updLine_grantQueue (p : Part) (l : LineId) (f : Line → Line) : (p.updLine l f).grantQueue = p.grantQueue := rfl
@[simp] theorem Part.updLine_senders (p : Part) (l : LineId) (f : Line → Line) : (p.updLine l f).senders = p.senders := rfl
@[simp] theorem Part.updLine_profiles (p : Part) (l : LineId) (f : Line → Line) : (p.updLine l f).profiles = p.profiles := rfl
@[simp] theorem Part.updLine_conventions (p : Part) (l : LineId) (f : Line → Line) : (p.updLine l f).conventions = p.conventions := rfl
@[simp] theorem Part.updLine_globals (p : Part) (l : LineId) (f : Line → Line) : (p.updLine l f).globals = p.globals := rfl
@[simp] theorem Part.updLine_linkA (p : Part) (l : LineId) (f : Line → Line) : (p.updLine l f).linkA = p.linkA := rfl
@[simp] theorem Part.updLine_linkB (p : Part) (l : LineId) (f : Line → Line) : (p.updLine l f).linkB = p.linkB := rfl

/-! ### setSender -/

@[simp] theorem Part.setSender_timeBase (p : Part) (k : SenderId) (x : Sender) : (p.setSender k x).timeBase = p.timeBase := rfl
@[simp] theorem Part.setSender_scan (p : Part) (k : SenderId) (x : Sender) : (p.setSender k x).scan = p.scan := rfl
@[simp] theorem Part.setSender_lines (p : Part) (k : SenderId) (x : Sender) : (p.setSender k x).lines = p.lines := rfl
@[simp] theorem Part.setSender_traceSlots (p : Part) (k : SenderId) (x : Sender) : (p.setSender k x).traceSlots = p.traceSlots := rfl
@[simp] theorem Part.setSender_free (p : Part) (k : SenderId) (x : Sender) : (p.setSender k x).free = p.free := rfl
@[simp] theorem Part.setSender_grantQueue (p : Part) (k : SenderId) (x : Sender) : (p.setSender k x).grantQueue = p.grantQueue := rfl
@[simp] theorem Part.setSender_profiles (p : Part) (k : SenderId) (x : Sender) : (p.setSender k x).profiles = p.profiles := rfl
@[simp] theorem Part.setSender_conventions (p : Part) (k : SenderId) (x : Sender) : (p.setSender k x).conventions = p.conventions := rfl
@[simp] theorem Part.setSender_globals (p : Part) (k : SenderId) (x : Sender) : (p.setSender k x).globals = p.globals := rfl
@[simp] theorem Part.setSender_linkA (p : Part) (k : SenderId) (x : Sender) : (p.setSender k x).linkA = p.linkA := rfl
@[simp] theorem Part.setSender_linkB (p : Part) (k : SenderId) (x : Sender) : (p.setSender k x).linkB = p.linkB := rfl

/-! ### setProfile -/

@[simp] theorem Part.setProfile_timeBase (p : Part) (i : ProfileId) (r : Profile) : (p.setProfile i r).timeBase = p.timeBase := rfl
@[simp] theorem Part.setProfile_scan (p : Part) (i : ProfileId) (r : Profile) : (p.setProfile i r).scan = p.scan := rfl
@[simp] theorem Part.setProfile_lines (p : Part) (i : ProfileId) (r : Profile) : (p.setProfile i r).lines = p.lines := rfl
@[simp] theorem Part.setProfile_traceSlots (p : Part) (i : ProfileId) (r : Profile) : (p.setProfile i r).traceSlots = p.traceSlots := rfl
@[simp] theorem Part.setProfile_free (p : Part) (i : ProfileId) (r : Profile) : (p.setProfile i r).free = p.free := rfl
@[simp] theorem Part.setProfile_grantQueue (p : Part) (i : ProfileId) (r : Profile) : (p.setProfile i r).grantQueue = p.grantQueue := rfl
@[simp] theorem Part.setProfile_senders (p : Part) (i : ProfileId) (r : Profile) : (p.setProfile i r).senders = p.senders := rfl
@[simp] theorem Part.setProfile_conventions (p : Part) (i : ProfileId) (r : Profile) : (p.setProfile i r).conventions = p.conventions := rfl
@[simp] theorem Part.setProfile_globals (p : Part) (i : ProfileId) (r : Profile) : (p.setProfile i r).globals = p.globals := rfl
@[simp] theorem Part.setProfile_linkA (p : Part) (i : ProfileId) (r : Profile) : (p.setProfile i r).linkA = p.linkA := rfl
@[simp] theorem Part.setProfile_linkB (p : Part) (i : ProfileId) (r : Profile) : (p.setProfile i r).linkB = p.linkB := rfl

/-! ### setConvention -/

@[simp] theorem Part.setConvention_timeBase (p : Part) (i : ConventionId) (r : Convention) : (p.setConvention i r).timeBase = p.timeBase := rfl
@[simp] theorem Part.setConvention_scan (p : Part) (i : ConventionId) (r : Convention) : (p.setConvention i r).scan = p.scan := rfl
@[simp] theorem Part.setConvention_lines (p : Part) (i : ConventionId) (r : Convention) : (p.setConvention i r).lines = p.lines := rfl
@[simp] theorem Part.setConvention_traceSlots (p : Part) (i : ConventionId) (r : Convention) : (p.setConvention i r).traceSlots = p.traceSlots := rfl
@[simp] theorem Part.setConvention_free (p : Part) (i : ConventionId) (r : Convention) : (p.setConvention i r).free = p.free := rfl
@[simp] theorem Part.setConvention_grantQueue (p : Part) (i : ConventionId) (r : Convention) : (p.setConvention i r).grantQueue = p.grantQueue := rfl
@[simp] theorem Part.setConvention_senders (p : Part) (i : ConventionId) (r : Convention) : (p.setConvention i r).senders = p.senders := rfl
@[simp] theorem Part.setConvention_profiles (p : Part) (i : ConventionId) (r : Convention) : (p.setConvention i r).profiles = p.profiles := rfl
@[simp] theorem Part.setConvention_globals (p : Part) (i : ConventionId) (r : Convention) : (p.setConvention i r).globals = p.globals := rfl
@[simp] theorem Part.setConvention_linkA (p : Part) (i : ConventionId) (r : Convention) : (p.setConvention i r).linkA = p.linkA := rfl
@[simp] theorem Part.setConvention_linkB (p : Part) (i : ConventionId) (r : Convention) : (p.setConvention i r).linkB = p.linkB := rfl

/-! ### setTraceSlot -/

@[simp] theorem Part.setTraceSlot_timeBase (p : Part) (i : SlotId) (o : Option LineId) : (p.setTraceSlot i o).timeBase = p.timeBase := rfl
@[simp] theorem Part.setTraceSlot_scan (p : Part) (i : SlotId) (o : Option LineId) : (p.setTraceSlot i o).scan = p.scan := rfl
@[simp] theorem Part.setTraceSlot_lines (p : Part) (i : SlotId) (o : Option LineId) : (p.setTraceSlot i o).lines = p.lines := rfl
@[simp] theorem Part.setTraceSlot_free (p : Part) (i : SlotId) (o : Option LineId) : (p.setTraceSlot i o).free = p.free := rfl
@[simp] theorem Part.setTraceSlot_grantQueue (p : Part) (i : SlotId) (o : Option LineId) : (p.setTraceSlot i o).grantQueue = p.grantQueue := rfl
@[simp] theorem Part.setTraceSlot_senders (p : Part) (i : SlotId) (o : Option LineId) : (p.setTraceSlot i o).senders = p.senders := rfl
@[simp] theorem Part.setTraceSlot_profiles (p : Part) (i : SlotId) (o : Option LineId) : (p.setTraceSlot i o).profiles = p.profiles := rfl
@[simp] theorem Part.setTraceSlot_conventions (p : Part) (i : SlotId) (o : Option LineId) : (p.setTraceSlot i o).conventions = p.conventions := rfl
@[simp] theorem Part.setTraceSlot_globals (p : Part) (i : SlotId) (o : Option LineId) : (p.setTraceSlot i o).globals = p.globals := rfl
@[simp] theorem Part.setTraceSlot_linkA (p : Part) (i : SlotId) (o : Option LineId) : (p.setTraceSlot i o).linkA = p.linkA := rfl
@[simp] theorem Part.setTraceSlot_linkB (p : Part) (i : SlotId) (o : Option LineId) : (p.setTraceSlot i o).linkB = p.linkB := rfl

/-! ### setTimeBase -/

@[simp] theorem Part.setTimeBase_scan (p : Part) (f : TimeBase → TimeBase) : (p.setTimeBase f).scan = p.scan := rfl
@[simp] theorem Part.setTimeBase_lines (p : Part) (f : TimeBase → TimeBase) : (p.setTimeBase f).lines = p.lines := rfl
@[simp] theorem Part.setTimeBase_traceSlots (p : Part) (f : TimeBase → TimeBase) : (p.setTimeBase f).traceSlots = p.traceSlots := rfl
@[simp] theorem Part.setTimeBase_free (p : Part) (f : TimeBase → TimeBase) : (p.setTimeBase f).free = p.free := rfl
@[simp] theorem Part.setTimeBase_grantQueue (p : Part) (f : TimeBase → TimeBase) : (p.setTimeBase f).grantQueue = p.grantQueue := rfl
@[simp] theorem Part.setTimeBase_senders (p : Part) (f : TimeBase → TimeBase) : (p.setTimeBase f).senders = p.senders := rfl
@[simp] theorem Part.setTimeBase_profiles (p : Part) (f : TimeBase → TimeBase) : (p.setTimeBase f).profiles = p.profiles := rfl
@[simp] theorem Part.setTimeBase_conventions (p : Part) (f : TimeBase → TimeBase) : (p.setTimeBase f).conventions = p.conventions := rfl
@[simp] theorem Part.setTimeBase_globals (p : Part) (f : TimeBase → TimeBase) : (p.setTimeBase f).globals = p.globals := rfl
@[simp] theorem Part.setTimeBase_linkA (p : Part) (f : TimeBase → TimeBase) : (p.setTimeBase f).linkA = p.linkA := rfl
@[simp] theorem Part.setTimeBase_linkB (p : Part) (f : TimeBase → TimeBase) : (p.setTimeBase f).linkB = p.linkB := rfl

/-! ### leaveGrantQueue -/

@[simp] theorem Part.leaveGrantQueue_timeBase (p : Part) (l : LineId) : (p.leaveGrantQueue l).timeBase = p.timeBase := rfl
@[simp] theorem Part.leaveGrantQueue_scan (p : Part) (l : LineId) : (p.leaveGrantQueue l).scan = p.scan := rfl
@[simp] theorem Part.leaveGrantQueue_lines (p : Part) (l : LineId) : (p.leaveGrantQueue l).lines = p.lines := rfl
@[simp] theorem Part.leaveGrantQueue_traceSlots (p : Part) (l : LineId) : (p.leaveGrantQueue l).traceSlots = p.traceSlots := rfl
@[simp] theorem Part.leaveGrantQueue_free (p : Part) (l : LineId) : (p.leaveGrantQueue l).free = p.free := rfl
@[simp] theorem Part.leaveGrantQueue_senders (p : Part) (l : LineId) : (p.leaveGrantQueue l).senders = p.senders := rfl
@[simp] theorem Part.leaveGrantQueue_profiles (p : Part) (l : LineId) : (p.leaveGrantQueue l).profiles = p.profiles := rfl
@[simp] theorem Part.leaveGrantQueue_conventions (p : Part) (l : LineId) : (p.leaveGrantQueue l).conventions = p.conventions := rfl
@[simp] theorem Part.leaveGrantQueue_globals (p : Part) (l : LineId) : (p.leaveGrantQueue l).globals = p.globals := rfl
@[simp] theorem Part.leaveGrantQueue_linkA (p : Part) (l : LineId) : (p.leaveGrantQueue l).linkA = p.linkA := rfl
@[simp] theorem Part.leaveGrantQueue_linkB (p : Part) (l : LineId) : (p.leaveGrantQueue l).linkB = p.linkB := rfl

/-! ### setLink -/

@[simp] theorem Part.setLink_timeBase (p : Part) (lk : LinkId) (k : Link) : (p.setLink lk k).timeBase = p.timeBase := by cases lk <;> rfl
@[simp] theorem Part.setLink_scan (p : Part) (lk : LinkId) (k : Link) : (p.setLink lk k).scan = p.scan := by cases lk <;> rfl
@[simp] theorem Part.setLink_lines (p : Part) (lk : LinkId) (k : Link) : (p.setLink lk k).lines = p.lines := by cases lk <;> rfl
@[simp] theorem Part.setLink_traceSlots (p : Part) (lk : LinkId) (k : Link) : (p.setLink lk k).traceSlots = p.traceSlots := by cases lk <;> rfl
@[simp] theorem Part.setLink_free (p : Part) (lk : LinkId) (k : Link) : (p.setLink lk k).free = p.free := by cases lk <;> rfl
@[simp] theorem Part.setLink_grantQueue (p : Part) (lk : LinkId) (k : Link) : (p.setLink lk k).grantQueue = p.grantQueue := by cases lk <;> rfl
@[simp] theorem Part.setLink_senders (p : Part) (lk : LinkId) (k : Link) : (p.setLink lk k).senders = p.senders := by cases lk <;> rfl
@[simp] theorem Part.setLink_profiles (p : Part) (lk : LinkId) (k : Link) : (p.setLink lk k).profiles = p.profiles := by cases lk <;> rfl
@[simp] theorem Part.setLink_conventions (p : Part) (lk : LinkId) (k : Link) : (p.setLink lk k).conventions = p.conventions := by cases lk <;> rfl
@[simp] theorem Part.setLink_globals (p : Part) (lk : LinkId) (k : Link) : (p.setLink lk k).globals = p.globals := by cases lk <;> rfl

/-! ### updLink -/

@[simp] theorem Part.updLink_timeBase (p : Part) (lk : LinkId) (f : Link → Link) : (p.updLink lk f).timeBase = p.timeBase := by cases lk <;> rfl
@[simp] theorem Part.updLink_scan (p : Part) (lk : LinkId) (f : Link → Link) : (p.updLink lk f).scan = p.scan := by cases lk <;> rfl
@[simp] theorem Part.updLink_lines (p : Part) (lk : LinkId) (f : Link → Link) : (p.updLink lk f).lines = p.lines := by cases lk <;> rfl
@[simp] theorem Part.updLink_traceSlots (p : Part) (lk : LinkId) (f : Link → Link) : (p.updLink lk f).traceSlots = p.traceSlots := by cases lk <;> rfl
@[simp] theorem Part.updLink_free (p : Part) (lk : LinkId) (f : Link → Link) : (p.updLink lk f).free = p.free := by cases lk <;> rfl
@[simp] theorem Part.updLink_grantQueue (p : Part) (lk : LinkId) (f : Link → Link) : (p.updLink lk f).grantQueue = p.grantQueue := by cases lk <;> rfl
@[simp] theorem Part.updLink_senders (p : Part) (lk : LinkId) (f : Link → Link) : (p.updLink lk f).senders = p.senders := by cases lk <;> rfl
@[simp] theorem Part.updLink_profiles (p : Part) (lk : LinkId) (f : Link → Link) : (p.updLink lk f).profiles = p.profiles := by cases lk <;> rfl
@[simp] theorem Part.updLink_conventions (p : Part) (lk : LinkId) (f : Link → Link) : (p.updLink lk f).conventions = p.conventions := by cases lk <;> rfl
@[simp] theorem Part.updLink_globals (p : Part) (lk : LinkId) (f : Link → Link) : (p.updLink lk f).globals = p.globals := by cases lk <;> rfl

/-! ### report -/

@[simp] theorem Part.report_timeBase (p : Part) (lk : LinkId) (b : ReportBody) : (p.report lk b).timeBase = p.timeBase := by cases lk <;> rfl
@[simp] theorem Part.report_scan (p : Part) (lk : LinkId) (b : ReportBody) : (p.report lk b).scan = p.scan := by cases lk <;> rfl
@[simp] theorem Part.report_lines (p : Part) (lk : LinkId) (b : ReportBody) : (p.report lk b).lines = p.lines := by cases lk <;> rfl
@[simp] theorem Part.report_traceSlots (p : Part) (lk : LinkId) (b : ReportBody) : (p.report lk b).traceSlots = p.traceSlots := by cases lk <;> rfl
@[simp] theorem Part.report_free (p : Part) (lk : LinkId) (b : ReportBody) : (p.report lk b).free = p.free := by cases lk <;> rfl
@[simp] theorem Part.report_grantQueue (p : Part) (lk : LinkId) (b : ReportBody) : (p.report lk b).grantQueue = p.grantQueue := by cases lk <;> rfl
@[simp] theorem Part.report_senders (p : Part) (lk : LinkId) (b : ReportBody) : (p.report lk b).senders = p.senders := by cases lk <;> rfl
@[simp] theorem Part.report_profiles (p : Part) (lk : LinkId) (b : ReportBody) : (p.report lk b).profiles = p.profiles := by cases lk <;> rfl
@[simp] theorem Part.report_conventions (p : Part) (lk : LinkId) (b : ReportBody) : (p.report lk b).conventions = p.conventions := by cases lk <;> rfl
@[simp] theorem Part.report_globals (p : Part) (lk : LinkId) (b : ReportBody) : (p.report lk b).globals = p.globals := by cases lk <;> rfl

/-! ### dropWaiting -/

@[simp] theorem Part.dropWaiting_timeBase (p : Part) (lk : LinkId) : (p.dropWaiting lk).timeBase = p.timeBase := by cases lk <;> rfl
@[simp] theorem Part.dropWaiting_scan (p : Part) (lk : LinkId) : (p.dropWaiting lk).scan = p.scan := by cases lk <;> rfl
@[simp] theorem Part.dropWaiting_lines (p : Part) (lk : LinkId) : (p.dropWaiting lk).lines = p.lines := by cases lk <;> rfl
@[simp] theorem Part.dropWaiting_traceSlots (p : Part) (lk : LinkId) : (p.dropWaiting lk).traceSlots = p.traceSlots := by cases lk <;> rfl
@[simp] theorem Part.dropWaiting_free (p : Part) (lk : LinkId) : (p.dropWaiting lk).free = p.free := by cases lk <;> rfl
@[simp] theorem Part.dropWaiting_grantQueue (p : Part) (lk : LinkId) : (p.dropWaiting lk).grantQueue = p.grantQueue := by cases lk <;> rfl
@[simp] theorem Part.dropWaiting_senders (p : Part) (lk : LinkId) : (p.dropWaiting lk).senders = p.senders := by cases lk <;> rfl
@[simp] theorem Part.dropWaiting_profiles (p : Part) (lk : LinkId) : (p.dropWaiting lk).profiles = p.profiles := by cases lk <;> rfl
@[simp] theorem Part.dropWaiting_conventions (p : Part) (lk : LinkId) : (p.dropWaiting lk).conventions = p.conventions := by cases lk <;> rfl
@[simp] theorem Part.dropWaiting_globals (p : Part) (lk : LinkId) : (p.dropWaiting lk).globals = p.globals := by cases lk <;> rfl

/-! ### reportBoth -/

@[simp] theorem Part.reportBoth_timeBase (p : Part) (b : ReportBody) : (p.reportBoth b).timeBase = p.timeBase := by
  simp [Part.reportBoth]
@[simp] theorem Part.reportBoth_scan (p : Part) (b : ReportBody) : (p.reportBoth b).scan = p.scan := by
  simp [Part.reportBoth]
@[simp] theorem Part.reportBoth_lines (p : Part) (b : ReportBody) : (p.reportBoth b).lines = p.lines := by
  simp [Part.reportBoth]
@[simp] theorem Part.reportBoth_traceSlots (p : Part) (b : ReportBody) : (p.reportBoth b).traceSlots = p.traceSlots := by
  simp [Part.reportBoth]
@[simp] theorem Part.reportBoth_free (p : Part) (b : ReportBody) : (p.reportBoth b).free = p.free := by
  simp [Part.reportBoth]
@[simp] theorem Part.reportBoth_grantQueue (p : Part) (b : ReportBody) : (p.reportBoth b).grantQueue = p.grantQueue := by
  simp [Part.reportBoth]
@[simp] theorem Part.reportBoth_senders (p : Part) (b : ReportBody) : (p.reportBoth b).senders = p.senders := by
  simp [Part.reportBoth]
@[simp] theorem Part.reportBoth_profiles (p : Part) (b : ReportBody) : (p.reportBoth b).profiles = p.profiles := by
  simp [Part.reportBoth]
@[simp] theorem Part.reportBoth_conventions (p : Part) (b : ReportBody) : (p.reportBoth b).conventions = p.conventions := by
  simp [Part.reportBoth]
@[simp] theorem Part.reportBoth_globals (p : Part) (b : ReportBody) : (p.reportBoth b).globals = p.globals := by
  simp [Part.reportBoth]

/-! ### traceReport -/

@[simp] theorem Part.traceReport_timeBase (p : Part) (l : LineId) (a : Loop) (n : Nat) (v : Verdict) :
    (p.traceReport l a n v).timeBase = p.timeBase := by
  unfold Part.traceReport; split <;> simp
@[simp] theorem Part.traceReport_scan (p : Part) (l : LineId) (a : Loop) (n : Nat) (v : Verdict) :
    (p.traceReport l a n v).scan = p.scan := by
  unfold Part.traceReport; split <;> simp
@[simp] theorem Part.traceReport_lines (p : Part) (l : LineId) (a : Loop) (n : Nat) (v : Verdict) :
    (p.traceReport l a n v).lines = p.lines := by
  unfold Part.traceReport; split <;> simp
@[simp] theorem Part.traceReport_traceSlots (p : Part) (l : LineId) (a : Loop) (n : Nat) (v : Verdict) :
    (p.traceReport l a n v).traceSlots = p.traceSlots := by
  unfold Part.traceReport; split <;> simp
@[simp] theorem Part.traceReport_free (p : Part) (l : LineId) (a : Loop) (n : Nat) (v : Verdict) :
    (p.traceReport l a n v).free = p.free := by
  unfold Part.traceReport; split <;> simp
@[simp] theorem Part.traceReport_grantQueue (p : Part) (l : LineId) (a : Loop) (n : Nat) (v : Verdict) :
    (p.traceReport l a n v).grantQueue = p.grantQueue := by
  unfold Part.traceReport; split <;> simp
@[simp] theorem Part.traceReport_senders (p : Part) (l : LineId) (a : Loop) (n : Nat) (v : Verdict) :
    (p.traceReport l a n v).senders = p.senders := by
  unfold Part.traceReport; split <;> simp
@[simp] theorem Part.traceReport_profiles (p : Part) (l : LineId) (a : Loop) (n : Nat) (v : Verdict) :
    (p.traceReport l a n v).profiles = p.profiles := by
  unfold Part.traceReport; split <;> simp
@[simp] theorem Part.traceReport_conventions (p : Part) (l : LineId) (a : Loop) (n : Nat) (v : Verdict) :
    (p.traceReport l a n v).conventions = p.conventions := by
  unfold Part.traceReport; split <;> simp
@[simp] theorem Part.traceReport_globals (p : Part) (l : LineId) (a : Loop) (n : Nat) (v : Verdict) :
    (p.traceReport l a n v).globals = p.globals := by
  unfold Part.traceReport; split <;> simp

/-! ### Reading what was written -/

@[simp] theorem Part.line_setLine_self (p : Part) (i : LineId) (x : Line) : (p.setLine i x).line i = x :=
  Laws.get_set_self _ _ _
theorem Part.line_setLine_ne (p : Part) (i j : LineId) (x : Line) (h : j ≠ i) : (p.setLine i x).line j = p.line j :=
  Laws.get_set_ne _ _ _ _ h
@[simp] theorem Part.sender_setSender_self (p : Part) (i : SenderId) (x : Sender) : (p.setSender i x).sender i = x :=
  Laws.get_set_self _ _ _
theorem Part.sender_setSender_ne (p : Part) (i j : SenderId) (x : Sender) (h : j ≠ i) : (p.setSender i x).sender j = p.sender j :=
  Laws.get_set_ne _ _ _ _ h
@[simp] theorem Part.profile_setProfile_self (p : Part) (i : ProfileId) (x : Profile) : (p.setProfile i x).profile i = x :=
  Laws.get_set_self _ _ _
theorem Part.profile_setProfile_ne (p : Part) (i j : ProfileId) (x : Profile) (h : j ≠ i) : (p.setProfile i x).profile j = p.profile j :=
  Laws.get_set_ne _ _ _ _ h
@[simp] theorem Part.convention_setConvention_self (p : Part) (i : ConventionId) (x : Convention) : (p.setConvention i x).convention i = x :=
  Laws.get_set_self _ _ _
theorem Part.convention_setConvention_ne (p : Part) (i j : ConventionId) (x : Convention) (h : j ≠ i) : (p.setConvention i x).convention j = p.convention j :=
  Laws.get_set_ne _ _ _ _ h
@[simp] theorem Part.traceSlot_setTraceSlot_self (p : Part) (i : SlotId) (x : Option LineId) : (p.setTraceSlot i x).traceSlot i = x :=
  Laws.get_set_self _ _ _
theorem Part.traceSlot_setTraceSlot_ne (p : Part) (i j : SlotId) (x : Option LineId) (h : j ≠ i) : (p.setTraceSlot i x).traceSlot j = p.traceSlot j :=
  Laws.get_set_ne _ _ _ _ h
@[simp] theorem Part.line_updLine_self (p : Part) (l : LineId) (f : Line → Line) :
    (p.updLine l f).line l = f (p.line l) := Part.line_setLine_self p l _
theorem Part.line_updLine_ne (p : Part) (l m : LineId) (f : Line → Line) (h : m ≠ l) :
    (p.updLine l f).line m = p.line m := Part.line_setLine_ne p l m _ h
/-- The later write of a line stands. -/
@[simp] theorem Part.setLine_setLine (p : Part) (l : LineId) (x y : Line) : (p.setLine l x).setLine l y = p.setLine l y := by
  simp [Part.setLine]
/-- Two changes of one line are one change. -/
theorem Part.updLine_updLine (p : Part) (l : LineId) (f g : Line → Line) :
    (p.updLine l f).updLine l g = p.updLine l (fun x => g (f x)) := by
  simp [Part.updLine]
@[simp] theorem Part.link_setLink_self (p : Part) (lk : LinkId) (k : Link) : (p.setLink lk k).link lk = k := by
  cases lk <;> rfl
@[simp] theorem Part.link_setLink_other (p : Part) (lk : LinkId) (k : Link) :
    (p.setLink lk k).link lk.other = p.link lk.other := by
  cases lk <;> rfl
@[simp] theorem Part.link_updLink_self (p : Part) (lk : LinkId) (f : Link → Link) :
    (p.updLink lk f).link lk = f (p.link lk) := Part.link_setLink_self p lk _
@[simp] theorem Part.link_updLink_other (p : Part) (lk : LinkId) (f : Link → Link) :
    (p.updLink lk f).link lk.other = p.link lk.other := Part.link_setLink_other p lk _

/-! ### Reads that an update of another field leaves -/

@[simp] theorem Part.sender_setLine (p : Part) (l : LineId) (x : Line) (m : SenderId) : (p.setLine l x).sender m = p.sender m := rfl
@[simp] theorem Part.profile_setLine (p : Part) (l : LineId) (x : Line) (m : ProfileId) : (p.setLine l x).profile m = p.profile m := rfl
@[simp] theorem Part.convention_setLine (p : Part) (l : LineId) (x : Line) (m : ConventionId) : (p.setLine l x).convention m = p.convention m := rfl
@[simp] theorem Part.traceSlot_setLine (p : Part) (l : LineId) (x : Line) (m : SlotId) : (p.setLine l x).traceSlot m = p.traceSlot m := rfl
@[simp] theorem Part.link_setLine (p : Part) (l : LineId) (x : Line) (k' : LinkId) : (p.setLine l x).link k' = p.link k' := by
  cases k' <;> rfl
@[simp] theorem Part.sender_updLine (p : Part) (l : LineId) (f : Line → Line) (m : SenderId) : (p.updLine l f).sender m = p.sender m := rfl
@[simp] theorem Part.profile_updLine (p : Part) (l : LineId) (f : Line → Line) (m : ProfileId) : (p.updLine l f).profile m = p.profile m := rfl
@[simp] theorem Part.convention_updLine (p : Part) (l : LineId) (f : Line → Line) (m : ConventionId) : (p.updLine l f).convention m = p.convention m := rfl
@[simp] theorem Part.traceSlot_updLine (p : Part) (l : LineId) (f : Line → Line) (m : SlotId) : (p.updLine l f).traceSlot m = p.traceSlot m := rfl
@[simp] theorem Part.link_updLine (p : Part) (l : LineId) (f : Line → Line) (k' : LinkId) : (p.updLine l f).link k' = p.link k' := by
  cases k' <;> rfl
@[simp] theorem Part.line_setSender (p : Part) (k : SenderId) (x : Sender) (m : LineId) : (p.setSender k x).line m = p.line m := rfl
@[simp] theorem Part.profile_setSender (p : Part) (k : SenderId) (x : Sender) (m : ProfileId) : (p.setSender k x).profile m = p.profile m := rfl
@[simp] theorem Part.convention_setSender (p : Part) (k : SenderId) (x : Sender) (m : ConventionId) : (p.setSender k x).convention m = p.convention m := rfl
@[simp] theorem Part.traceSlot_setSender (p : Part) (k : SenderId) (x : Sender) (m : SlotId) : (p.setSender k x).traceSlot m = p.traceSlot m := rfl
@[simp] theorem Part.link_setSender (p : Part) (k : SenderId) (x : Sender) (k' : LinkId) : (p.setSender k x).link k' = p.link k' := by
  cases k' <;> rfl
@[simp] theorem Part.line_setProfile (p : Part) (i : ProfileId) (r : Profile) (m : LineId) : (p.setProfile i r).line m = p.line m := rfl
@[simp] theorem Part.sender_setProfile (p : Part) (i : ProfileId) (r : Profile) (m : SenderId) : (p.setProfile i r).sender m = p.sender m := rfl
@[simp] theorem Part.convention_setProfile (p : Part) (i : ProfileId) (r : Profile) (m : ConventionId) : (p.setProfile i r).convention m = p.convention m := rfl
@[simp] theorem Part.traceSlot_setProfile (p : Part) (i : ProfileId) (r : Profile) (m : SlotId) : (p.setProfile i r).traceSlot m = p.traceSlot m := rfl
@[simp] theorem Part.link_setProfile (p : Part) (i : ProfileId) (r : Profile) (k' : LinkId) : (p.setProfile i r).link k' = p.link k' := by
  cases k' <;> rfl
@[simp] theorem Part.line_setConvention (p : Part) (i : ConventionId) (r : Convention) (m : LineId) : (p.setConvention i r).line m = p.line m := rfl
@[simp] theorem Part.sender_setConvention (p : Part) (i : ConventionId) (r : Convention) (m : SenderId) : (p.setConvention i r).sender m = p.sender m := rfl
@[simp] theorem Part.profile_setConvention (p : Part) (i : ConventionId) (r : Convention) (m : ProfileId) : (p.setConvention i r).profile m = p.profile m := rfl
@[simp] theorem Part.traceSlot_setConvention (p : Part) (i : ConventionId) (r : Convention) (m : SlotId) : (p.setConvention i r).traceSlot m = p.traceSlot m := rfl
@[simp] theorem Part.link_setConvention (p : Part) (i : ConventionId) (r : Convention) (k' : LinkId) : (p.setConvention i r).link k' = p.link k' := by
  cases k' <;> rfl
@[simp] theorem Part.line_setTraceSlot (p : Part) (i : SlotId) (o : Option LineId) (m : LineId) : (p.setTraceSlot i o).line m = p.line m := rfl
@[simp] theorem Part.sender_setTraceSlot (p : Part) (i : SlotId) (o : Option LineId) (m : SenderId) : (p.setTraceSlot i o).sender m = p.sender m := rfl
@[simp] theorem Part.profile_setTraceSlot (p : Part) (i : SlotId) (o : Option LineId) (m : ProfileId) : (p.setTraceSlot i o).profile m = p.profile m := rfl
@[simp] theorem Part.convention_setTraceSlot (p : Part) (i : SlotId) (o : Option LineId) (m : ConventionId) : (p.setTraceSlot i o).convention m = p.convention m := rfl
@[simp] theorem Part.link_setTraceSlot (p : Part) (i : SlotId) (o : Option LineId) (k' : LinkId) : (p.setTraceSlot i o).link k' = p.link k' := by
  cases k' <;> rfl
@[simp] theorem Part.line_setTimeBase (p : Part) (f : TimeBase → TimeBase) (m : LineId) : (p.setTimeBase f).line m = p.line m := rfl
@[simp] theorem Part.sender_setTimeBase (p : Part) (f : TimeBase → TimeBase) (m : SenderId) : (p.setTimeBase f).sender m = p.sender m := rfl
@[simp] theorem Part.profile_setTimeBase (p : Part) (f : TimeBase → TimeBase) (m : ProfileId) : (p.setTimeBase f).profile m = p.profile m := rfl
@[simp] theorem Part.convention_setTimeBase (p : Part) (f : TimeBase → TimeBase) (m : ConventionId) : (p.setTimeBase f).convention m = p.convention m := rfl
@[simp] theorem Part.traceSlot_setTimeBase (p : Part) (f : TimeBase → TimeBase) (m : SlotId) : (p.setTimeBase f).traceSlot m = p.traceSlot m := rfl
@[simp] theorem Part.link_setTimeBase (p : Part) (f : TimeBase → TimeBase) (k' : LinkId) : (p.setTimeBase f).link k' = p.link k' := by
  cases k' <;> rfl
@[simp] theorem Part.line_leaveGrantQueue (p : Part) (l : LineId) (m : LineId) : (p.leaveGrantQueue l).line m = p.line m := rfl
@[simp] theorem Part.sender_leaveGrantQueue (p : Part) (l : LineId) (m : SenderId) : (p.leaveGrantQueue l).sender m = p.sender m := rfl
@[simp] theorem Part.profile_leaveGrantQueue (p : Part) (l : LineId) (m : ProfileId) : (p.leaveGrantQueue l).profile m = p.profile m := rfl
@[simp] theorem Part.convention_leaveGrantQueue (p : Part) (l : LineId) (m : ConventionId) : (p.leaveGrantQueue l).convention m = p.convention m := rfl
@[simp] theorem Part.traceSlot_leaveGrantQueue (p : Part) (l : LineId) (m : SlotId) : (p.leaveGrantQueue l).traceSlot m = p.traceSlot m := rfl
@[simp] theorem Part.link_leaveGrantQueue (p : Part) (l : LineId) (k' : LinkId) : (p.leaveGrantQueue l).link k' = p.link k' := by
  cases k' <;> rfl
@[simp] theorem Part.line_setLink (p : Part) (lk : LinkId) (k : Link) (m : LineId) : (p.setLink lk k).line m = p.line m := by
  cases lk <;> rfl
@[simp] theorem Part.sender_setLink (p : Part) (lk : LinkId) (k : Link) (m : SenderId) : (p.setLink lk k).sender m = p.sender m := by
  cases lk <;> rfl
@[simp] theorem Part.profile_setLink (p : Part) (lk : LinkId) (k : Link) (m : ProfileId) : (p.setLink lk k).profile m = p.profile m := by
  cases lk <;> rfl
@[simp] theorem Part.convention_setLink (p : Part) (lk : LinkId) (k : Link) (m : ConventionId) : (p.setLink lk k).convention m = p.convention m := by
  cases lk <;> rfl
@[simp] theorem Part.traceSlot_setLink (p : Part) (lk : LinkId) (k : Link) (m : SlotId) : (p.setLink lk k).traceSlot m = p.traceSlot m := by
  cases lk <;> rfl
@[simp] theorem Part.line_updLink (p : Part) (lk : LinkId) (f : Link → Link) (m : LineId) : (p.updLink lk f).line m = p.line m := by
  cases lk <;> rfl
@[simp] theorem Part.sender_updLink (p : Part) (lk : LinkId) (f : Link → Link) (m : SenderId) : (p.updLink lk f).sender m = p.sender m := by
  cases lk <;> rfl
@[simp] theorem Part.profile_updLink (p : Part) (lk : LinkId) (f : Link → Link) (m : ProfileId) : (p.updLink lk f).profile m = p.profile m := by
  cases lk <;> rfl
@[simp] theorem Part.convention_updLink (p : Part) (lk : LinkId) (f : Link → Link) (m : ConventionId) : (p.updLink lk f).convention m = p.convention m := by
  cases lk <;> rfl
@[simp] theorem Part.traceSlot_updLink (p : Part) (lk : LinkId) (f : Link → Link) (m : SlotId) : (p.updLink lk f).traceSlot m = p.traceSlot m := by
  cases lk <;> rfl
@[simp] theorem Part.line_report (p : Part) (lk : LinkId) (b : ReportBody) (m : LineId) : (p.report lk b).line m = p.line m := by
  cases lk <;> rfl
@[simp] theorem Part.sender_report (p : Part) (lk : LinkId) (b : ReportBody) (m : SenderId) : (p.report lk b).sender m = p.sender m := by
  cases lk <;> rfl
@[simp] theorem Part.profile_report (p : Part) (lk : LinkId) (b : ReportBody) (m : ProfileId) : (p.report lk b).profile m = p.profile m := by
  cases lk <;> rfl
@[simp] theorem Part.convention_report (p : Part) (lk : LinkId) (b : ReportBody) (m : ConventionId) : (p.report lk b).convention m = p.convention m := by
  cases lk <;> rfl
@[simp] theorem Part.traceSlot_report (p : Part) (lk : LinkId) (b : ReportBody) (m : SlotId) : (p.report lk b).traceSlot m = p.traceSlot m := by
  cases lk <;> rfl
@[simp] theorem Part.line_dropWaiting (p : Part) (lk : LinkId) (m : LineId) : (p.dropWaiting lk).line m = p.line m := by
  cases lk <;> rfl
@[simp] theorem Part.sender_dropWaiting (p : Part) (lk : LinkId) (m : SenderId) : (p.dropWaiting lk).sender m = p.sender m := by
  cases lk <;> rfl
@[simp] theorem Part.profile_dropWaiting (p : Part) (lk : LinkId) (m : ProfileId) : (p.dropWaiting lk).profile m = p.profile m := by
  cases lk <;> rfl
@[simp] theorem Part.convention_dropWaiting (p : Part) (lk : LinkId) (m : ConventionId) : (p.dropWaiting lk).convention m = p.convention m := by
  cases lk <;> rfl
@[simp] theorem Part.traceSlot_dropWaiting (p : Part) (lk : LinkId) (m : SlotId) : (p.dropWaiting lk).traceSlot m = p.traceSlot m := by
  cases lk <;> rfl
@[simp] theorem Part.line_reportBoth (p : Part) (b : ReportBody) (m : LineId) : (p.reportBoth b).line m = p.line m := by
  simp [Part.reportBoth]
@[simp] theorem Part.sender_reportBoth (p : Part) (b : ReportBody) (m : SenderId) : (p.reportBoth b).sender m = p.sender m := by
  simp [Part.reportBoth]
@[simp] theorem Part.profile_reportBoth (p : Part) (b : ReportBody) (m : ProfileId) : (p.reportBoth b).profile m = p.profile m := by
  simp [Part.reportBoth]
@[simp] theorem Part.convention_reportBoth (p : Part) (b : ReportBody) (m : ConventionId) : (p.reportBoth b).convention m = p.convention m := by
  simp [Part.reportBoth]
@[simp] theorem Part.traceSlot_reportBoth (p : Part) (b : ReportBody) (m : SlotId) : (p.reportBoth b).traceSlot m = p.traceSlot m := by
  simp [Part.reportBoth]
@[simp] theorem Part.line_traceReport (p : Part) (l : LineId) (a : Loop) (n : Nat) (v : Verdict) (m : LineId) :
    (p.traceReport l a n v).line m = p.line m := by
  unfold Part.traceReport; split <;> simp
@[simp] theorem Part.sender_traceReport (p : Part) (l : LineId) (a : Loop) (n : Nat) (v : Verdict) (m : SenderId) :
    (p.traceReport l a n v).sender m = p.sender m := by
  unfold Part.traceReport; split <;> simp
@[simp] theorem Part.profile_traceReport (p : Part) (l : LineId) (a : Loop) (n : Nat) (v : Verdict) (m : ProfileId) :
    (p.traceReport l a n v).profile m = p.profile m := by
  unfold Part.traceReport; split <;> simp
@[simp] theorem Part.convention_traceReport (p : Part) (l : LineId) (a : Loop) (n : Nat) (v : Verdict) (m : ConventionId) :
    (p.traceReport l a n v).convention m = p.convention m := by
  unfold Part.traceReport; split <;> simp
@[simp] theorem Part.traceSlot_traceReport (p : Part) (l : LineId) (a : Loop) (n : Nat) (v : Verdict) (m : SlotId) :
    (p.traceReport l a n v).traceSlot m = p.traceSlot m := by
  unfold Part.traceReport; split <;> simp

/-- A report and a write of a line may change places. -/
theorem Part.reportBoth_setLine (p : Part) (l : LineId) (x : Line) (b : ReportBody) :
    (p.setLine l x).reportBoth b = (p.reportBoth b).setLine l x := rfl
/-- A trace report and a write of a line may change places, if the write keeps the state and the trace slot. -/
theorem Part.traceReport_setLine (p : Part) (l : LineId) (x : Line) (a : Loop) (n : Nat) (v : Verdict)
    (hs : x.state = (p.line l).state) (ht : x.trace = (p.line l).trace) :
    (p.setLine l x).traceReport l a n v = (p.traceReport l a n v).setLine l x := by
  simp only [Part.traceReport, Part.line_setLine_self, hs, ht]
  split <;> rfl
/-- How a line reads in a part written out field by field. -/
theorem Part.line_mk (t : TimeBase) (c : Scan) (ls : Vector Line 48) (ts : Vector (Option LineId) 2) (n : Nat)
    (g : List LineId) (ks : Vector Sender 8) (ps : Vector Profile 8) (cs : Vector Convention 4) (gl : Globals)
    (a b : Link) (l : LineId) : Part.line ⟨t, c, ls, ts, n, g, ks, ps, cs, gl, a, b⟩ l = ls.get l := rfl

/-! ### The machine's state -/

@[simp] theorem State.onPart_pending (s : State) (f : Part → Part) : (s.onPart f).pending = s.pending := by
  unfold State.onPart; split <;> rfl
@[simp] theorem State.onPart_hold (s : State) (f : Part → Part) : (s.onPart f).hold = s.hold := by
  unfold State.onPart; split <;> rfl
@[simp] theorem State.onPart_outgoing (s : State) (f : Part → Part) : (s.onPart f).outgoing = s.outgoing := by
  unfold State.onPart; split <;> rfl
@[simp] theorem State.onPart_draws (s : State) (f : Part → Part) : (s.onPart f).draws = s.draws := by
  unfold State.onPart; split <;> rfl
/-- A part held in reset takes nothing. -/
theorem State.onPart_held (s : State) (f : Part → Part) (h : s.hold.held = true) : s.onPart f = s := by
  simp [State.onPart, h]
/-- A working part takes the row. -/
theorem State.onPart_working (s : State) (f : Part → Part) (h : s.hold.held = false) :
    s.onPart f = { s with part := f s.part } := by
  simp [State.onPart, h]

end Sys2Proof.Machine
end

