-- ==== Sys2Proof/Laws/Pool.lean ====
section
/-!
SUPPORT. What each operation of the digit store and the sender pool can do (Machine/Pool.lean): one spec lemma
for each, and what grants and aborts leave of a line.
-/

namespace Sys2Proof.Machine

/-- Two records of one line that differ at most in what the sender pool and the store keep in them: the held
sender, the run count and the queue. -/
def Line.sameAside (x y : Line) : Prop := y = { x with sender := y.sender, runCount := y.runCount, queue := y.queue }

theorem Line.sameAside_refl (x : Line) : x.sameAside x := rfl

theorem Line.sameAside_trans {x y z : Line} (h : x.sameAside y) (k : y.sameAside z) : x.sameAside z := by
  unfold Line.sameAside at *
  rw [k, h]

theorem Line.sameAside_state {x y : Line} (h : x.sameAside y) : y.state = x.state := by rw [h]
theorem Line.sameAside_gate {x y : Line} (h : x.sameAside y) : y.gate = x.gate := by rw [h]
theorem Line.sameAside_slicer {x y : Line} (h : x.sameAside y) : y.slicer = x.slicer := by rw [h]
theorem Line.sameAside_decoder {x y : Line} (h : x.sameAside y) : y.decoder = x.decoder := by rw [h]
theorem Line.sameAside_profile {x y : Line} (h : x.sameAside y) : y.profile = x.profile := by rw [h]
theorem Line.sameAside_digitIndex {x y : Line} (h : x.sameAside y) : y.digitIndex = x.digitIndex := by rw [h]
theorem Line.sameAside_flaps {x y : Line} (h : x.sameAside y) : y.flaps = x.flaps := by rw [h]
theorem Line.sameAside_timer {x y : Line} (h : x.sameAside y) : y.timer = x.timer := by rw [h]
theorem Line.sameAside_trace {x y : Line} (h : x.sameAside y) : y.trace = x.trace := by rw [h]
theorem Line.sameAside_callStart {x y : Line} (h : x.sameAside y) : y.callStart = x.callStart := by rw [h]
theorem Line.sameAside_pulseDialled {x y : Line} (h : x.sameAside y) : y.pulseDialled = x.pulseDialled := by rw [h]

/-- Two parts that differ at most in the pool: the lines' held senders, run counts and queues, the grant queue,
the senders, the free count, and the links. -/
structure Part.sameAside (p q : Part) : Prop where
  line : ∀ l, (p.line l).sameAside (q.line l)
  timeBase : q.timeBase = p.timeBase
  scan : q.scan = p.scan
  traceSlots : q.traceSlots = p.traceSlots
  profiles : q.profiles = p.profiles
  conventions : q.conventions = p.conventions
  globals : q.globals = p.globals

theorem Part.sameAside_refl (p : Part) : p.sameAside p := ⟨fun _ => rfl, rfl, rfl, rfl, rfl, rfl, rfl⟩

theorem Part.sameAside_trans {p q r : Part} (h : p.sameAside q) (k : q.sameAside r) : p.sameAside r :=
  ⟨fun l => Line.sameAside_trans (h.line l) (k.line l), k.timeBase.trans h.timeBase, k.scan.trans h.scan,
    k.traceSlots.trans h.traceSlots, k.profiles.trans h.profiles, k.conventions.trans h.conventions,
    k.globals.trans h.globals⟩

/-- Writing a line's held sender, run count and queue keeps the rest. -/
theorem Part.sameAside_setLine (p : Part) (l : LineId) (x : Line) (h : (p.line l).sameAside x) :
    p.sameAside (p.setLine l x) := by
  refine ⟨fun m => ?_, rfl, rfl, rfl, rfl, rfl, rfl⟩
  by_cases e : m = l
  · subst e
    rw [Part.line_setLine_self]
    exact h
  · rw [Part.line_setLine_ne _ _ _ _ e]
    exact Line.sameAside_refl _

theorem Part.sameAside_setPool (p : Part) (l : LineId) (a : Option SenderId) (b : Nat) (c : List Cell) :
    p.sameAside (p.setLine l { p.line l with sender := a, runCount := b, queue := c }) :=
  p.sameAside_setLine l _ rfl

/-- An update of the pool's own fields or of a link keeps the rest. -/
theorem Part.sameAside_of_eq (p q : Part) (hl : q.lines = p.lines) (ht : q.timeBase = p.timeBase)
    (hs : q.scan = p.scan) (hx : q.traceSlots = p.traceSlots) (hp : q.profiles = p.profiles)
    (hc : q.conventions = p.conventions) (hg : q.globals = p.globals) : p.sameAside q := by
  refine ⟨fun l => ?_, ht, hs, hx, hp, hc, hg⟩
  have : q.line l = p.line l := by simp only [Part.line, hl]
  rw [this]
  exact Line.sameAside_refl _

theorem Part.report_sameAside (p : Part) (lk : LinkId) (b : ReportBody) : p.sameAside (p.report lk b) := by
  apply p.sameAside_of_eq <;> simp

theorem Part.reportBoth_sameAside (p : Part) (b : ReportBody) : p.sameAside (p.reportBoth b) := by
  apply p.sameAside_of_eq <;> simp

/-- A fold of steps that keep the rest keeps the rest. -/
theorem Part.foldl_sameAside {α : Type} (f : Part → α → Part) (hf : ∀ p x, Part.sameAside p (f p x)) (xs : List α) :
    ∀ p : Part, p.sameAside (xs.foldl f p) := by
  induction xs with
  | nil => exact Part.sameAside_refl
  | cons x xs ih => exact fun p => Part.sameAside_trans (hf p x) (ih (f p x))

/-- A grant touches the granted line's sender, run count and queue, and the sender (R99). -/
theorem Part.grant_sameAside (p : Part) (l : LineId) (k : SenderId) : p.sameAside (p.grant l k) := by
  unfold Part.grant
  split
  · exact p.sameAside_refl
  · refine Part.sameAside_trans ?_ (Part.sameAside_of_eq (p.setLine l _) _ rfl rfl rfl rfl rfl rfl rfl)
    exact p.sameAside_setPool l _ _ _

theorem Part.grantOnce_sameAside (p : Part) : p.sameAside p.grantOnce := by
  unfold Part.grantOnce
  split
  · refine Part.sameAside_trans ?_ (Part.grant_sameAside _ _ _)
    exact Part.sameAside_of_eq _ _ rfl rfl rfl rfl rfl rfl rfl
  · exact p.sameAside_refl

theorem Part.grantTest_sameAside (p : Part) : p.sameAside p.grantTest :=
  Part.foldl_sameAside _ (fun q _ => q.grantOnce_sameAside) _ _

theorem Part.judge_sameAside (p : Part) (l : LineId) : p.sameAside (p.judge l) := by
  unfold Part.judge
  split
  · refine Part.sameAside_trans ?_ (Part.grantTest_sameAside _)
    exact Part.sameAside_of_eq _ _ rfl rfl rfl rfl rfl rfl rfl
  · exact p.sameAside_refl

theorem Part.leaveGrantQueue_sameAside (p : Part) (l : LineId) : p.sameAside (p.leaveGrantQueue l) :=
  Part.sameAside_of_eq _ _ rfl rfl rfl rfl rfl rfl rfl

theorem Part.freeSender_sameAside (p : Part) (l : LineId) (k : SenderId) : p.sameAside (p.freeSender l k) := by
  refine Part.sameAside_trans ?_ (Part.sameAside_of_eq (p.setLine l _) _ rfl rfl rfl rfl rfl rfl rfl)
  exact p.sameAside_setPool l _ _ _

theorem Part.restoreHead_sameAside (p : Part) (l : LineId) : p.sameAside (p.restoreHead l) := by
  unfold Part.restoreHead
  split
  · exact p.sameAside_refl
  · exact p.sameAside_setPool l _ _ _

theorem Part.commit_sameAside (p : Part) (l : LineId) (k : SenderId) (m : Manner) : p.sameAside (p.commit l k m) := by
  unfold Part.commit
  split
  · exact p.sameAside_refl
  · refine Part.sameAside_trans ?_ (Part.reportBoth_sameAside _ _)
    refine Part.sameAside_trans ?_ (Part.sameAside_of_eq (p.setLine l _) _ rfl rfl rfl rfl rfl rfl rfl)
    exact p.sameAside_setPool l _ _ _

theorem Part.flush_sameAside (p : Part) (l : LineId) : p.sameAside (p.flush l) := by
  refine Part.sameAside_trans ?_ (Part.sameAside_of_eq (p.setLine l _) _ rfl rfl rfl rfl rfl rfl rfl)
  exact p.sameAside_setPool l _ _ _

theorem Part.abortCell_sameAside (p : Part) (l : LineId) (k : SenderId) : p.sameAside (p.abortCell l k) := by
  unfold Part.abortCell
  split
  · split
    · exact p.commit_sameAside l k _
    · exact p.restoreHead_sameAside l
  · exact p.sameAside_refl
  · exact p.sameAside_refl

theorem Part.abortOnly_sameAside (p : Part) (l : LineId) : p.sameAside (p.abortOnly l) := by
  unfold Part.abortOnly
  split
  · exact p.sameAside_refl
  · exact Part.sameAside_trans (p.abortCell_sameAside l _) (Part.freeSender_sameAside _ _ _)

/-- An abort leaves of every line all but the pool's fields (R109). -/
theorem Part.abort_sameAside (p : Part) (l : LineId) : p.sameAside (p.abort l) := by
  unfold Part.abort
  split
  · exact p.sameAside_refl
  · exact Part.sameAside_trans (p.abortOnly_sameAside l) (Part.grantTest_sameAside _)

/-- The profile a line reads is the same after what keeps the rest. -/
theorem Part.profileOfLine_sameAside {p q : Part} (h : p.sameAside q) (l : LineId) :
    q.profileOfLine l = p.profileOfLine l := by
  simp only [Part.profileOfLine, Part.profile, h.profiles, Line.sameAside_profile (h.line l)]

/-! ### What an operation can do -/

/-- One round of the grant test grants the head of the grant queue, or does nothing (R98). -/
theorem Part.grantOnce_cases (p : Part) :
    (∃ l rest k, p.timeBase.state = .locked ∧ p.grantQueue = l :: rest ∧ p.lowestFree = some k
      ∧ p.grantOnce = ({ p with grantQueue := rest } : Part).grant l k)
    ∨ p.grantOnce = p := by
  unfold Part.grantOnce
  split
  · next l rest k h1 h2 h3 => exact Or.inl ⟨l, rest, k, h1, h2, h3, rfl⟩
  · exact Or.inr rfl

/-- The abort of the sender that a line holds, by its phase and commit point (R109). -/
theorem Part.abortOnly_cases (p : Part) (l : LineId) (k : SenderId) (h : (p.line l).sender = some k) :
    ((p.sender k).state = .toneOn ∧ (p.sender k).pastCommit = true ∧ p.abortOnly l = (p.commit l k .atAbort).freeSender l k)
    ∨ ((p.sender k).state = .toneOn ∧ (p.sender k).pastCommit = false ∧ p.abortOnly l = (p.restoreHead l).freeSender l k)
    ∨ ((p.sender k).state ≠ .toneOn ∧ p.abortOnly l = p.freeSender l k) := by
  unfold Part.abortOnly Part.abortCell
  rw [h]
  cases hs : (p.sender k).state <;> cases hc : (p.sender k).pastCommit <;> simp [hs, hc]

/-- A judged line joins the grant queue and the grant test is made, or nothing happens (R96, R98). -/
theorem Part.judge_cases (p : Part) (l : LineId) :
    (p.eligible l = true ∧ p.judge l = ({ p with grantQueue := p.grantQueue ++ [l] } : Part).grantTest)
    ∨ (p.eligible l = false ∧ p.judge l = p) := by
  unfold Part.judge
  cases h : p.eligible l
  · exact Or.inr ⟨rfl, by simp⟩
  · exact Or.inl ⟨rfl, by simp⟩

/-- A digit offered to the store is lost, or takes a cell (R78). -/
theorem Part.lossReason_cases (p : Part) (n : Nat) :
    (p.lossReason n = some .line ∧ p.globals.lineCap ≤ n)
    ∨ (p.lossReason n = some .pool ∧ n < p.globals.lineCap ∧ p.free = 0)
    ∨ (p.lossReason n = none ∧ n < p.globals.lineCap ∧ 0 < p.free) := by
  unfold Part.lossReason
  by_cases h : p.globals.lineCap ≤ n
  · simp [h]
  · by_cases k : p.free = 0
    · simp [h, k]; omega
    · simp [h, k]; omega

end Sys2Proof.Machine
end

