-- ==== Sys2Proof/Laws/Leaving.lean ====
section
/-!
SUPPORT. The steps of R59 and the entries to states, each said once.
-/

namespace Sys2Proof.Machine

/-- Steps 1 to 4 of R59 are steps 1 to 3 and the leaving of the grant queue. -/
theorem Part.clearOut_eq (p : Part) (l : LineId) : p.clearOut l = (p.abandoned l).leaveGrantQueue l := by
  simp [Part.clearOut, Part.giveUpSender, Part.abandoned, Part.dropDigit, Part.stopTimer, Part.updLine, Line.withDecoder]

/-- The record of the line after steps 1 to 3 of R59, but for what belongs to its sender: no digit, no timer. -/
theorem Part.abandoned_line (p : Part) (l : LineId) :
    ((p.abandoned l).line l).decoder = { (p.line l).decoder with digit := none, pendingBreak := none }
      ∧ ((p.abandoned l).line l).gate = (p.line l).gate ∧ ((p.abandoned l).line l).slicer = (p.line l).slicer
      ∧ (p.abandoned l).profileOfLine l = p.profileOfLine l := by
  have h := Part.abort_sameAside (p.setLine l { p.line l with
    timer := none
    decoder := { (p.line l).decoder with digit := none, pendingBreak := none } }) l
  change Part.sameAside _ (p.abandoned l) at h
  have hp := Part.profileOfLine_sameAside h l
  have hl := h.line l
  rw [Part.line_setLine_self] at hl
  have h1 := Line.sameAside_decoder hl
  have h2 := Line.sameAside_gate hl
  have h3 := Line.sameAside_slicer hl
  refine ⟨h1, h2, h3, ?_⟩
  rw [hp]
  simp [Part.profileOfLine, Part.profile]

/-- What the entry to a state leaves of a line from which steps 1 to 4 of R59 have been taken, with its timer. -/
theorem Part.enterWithTimer_flushed (q : Part) (l : LineId) (st : LineState)
    (hd : (q.line l).decoder.digit = none) (hb : (q.line l).decoder.pendingBreak = none) :
    (((q.leaveGrantQueue l).flush l).enterState l st) = q.afterLeaving l st none := by
  simp [Part.afterLeaving, Part.flush, Part.enterState, Part.updLine, Decoder.cleared, Decoder.enter,
    Part.leaveGrantQueue, Part.setLine, Part.line_mk, Laws.get_set_self]
  have h1 : (q.lines.get l).decoder.digit = none := hd
  have h2 : (q.lines.get l).decoder.pendingBreak = none := hb
  simp [Part.line, h1, h2]

/-- The steps of R59 to a state that starts no timer (CONVERSE, PARKED, DISABLED). -/
theorem Part.leaveFor_untimed (p : Part) (l : LineId) (st : LineState) (c : LineCause) (lk : Option LinkId)
    (ht : st.timer = none) :
    p.leaveFor l st c lk = ((p.abandoned l).afterLeaving l st none).reportBoth
      (.lineState l st (p.line l).state (p.line l).gate c lk ((p.abandoned l).line l).queue.length) := by
  have hx := p.abandoned_line l
  have hd : ((p.abandoned l).line l).decoder.digit = none := by rw [hx.1]
  have hb : ((p.abandoned l).line l).decoder.pendingBreak = none := by rw [hx.1]
  have k3 : ∀ q : Part, ((q.afterLeaving l st none).line l) = { q.line l with
      state := st, timer := none, queue := [], decoder := (q.line l).decoder.cleared st } := by
    intro q
    simp [Part.afterLeaving, Part.setLine, Part.line_mk, Laws.get_set_self]
  simp only [Part.leaveFor, p.clearOut_eq, Part.enterWithTimer, ht,
    (p.abandoned l).enterWithTimer_flushed l st hd hb]
  rw [Part.lineStateReport, k3, hx.2.1]
  rfl

/-- The steps of R59 to a state that starts a timer (IDLE, SEIZING, ACTIVE, QUARANTINE). -/
theorem Part.leaveFor_timed (p : Part) (l : LineId) (st : LineState) (c : LineCause) (lk : Option LinkId)
    (k : TimerKind) (ht : st.timer = some k) (hs : k ≠ .seize) :
    p.leaveFor l st c lk
      = ((p.abandoned l).afterLeaving l st (some ⟨k, timerLength k (p.line l) (p.profileOfLine l)⟩)).reportBoth
        (.lineState l st (p.line l).state (p.line l).gate c lk ((p.abandoned l).line l).queue.length) := by
  have hx := p.abandoned_line l
  have hd : ((p.abandoned l).line l).decoder.digit = none := by rw [hx.1]
  have hb : ((p.abandoned l).line l).decoder.pendingBreak = none := by rw [hx.1]
  have hlen : ∀ x : Line, x.slicer = (p.line l).slicer →
      timerLength k x (p.profileOfLine l) = timerLength k (p.line l) (p.profileOfLine l) := by
    intro x h
    cases k <;> simp_all [timerLength]
  have key : ((p.abandoned l).afterLeaving l st none).startTimer l k
      = (p.abandoned l).afterLeaving l st (some ⟨k, timerLength k (p.line l) (p.profileOfLine l)⟩) := by
    have hline : ((p.abandoned l).afterLeaving l st none).line l = { (p.abandoned l).line l with
        state := st, timer := none, queue := [], decoder := ((p.abandoned l).line l).decoder.cleared st } := by
      simp [Part.afterLeaving, Part.setLine, Part.line_mk, Laws.get_set_self]
    have hprof : ((p.abandoned l).afterLeaving l st none).profileOfLine l = p.profileOfLine l := by
      rw [← hx.2.2.2]
      simp only [Part.profileOfLine, hline]
      rfl
    unfold Part.startTimer Part.updLine
    rw [hline, hprof]
    beta_reduce
    rw [hlen _ (show ({ (p.abandoned l).line l with
      state := st, timer := none, queue := [], decoder := ((p.abandoned l).line l).decoder.cleared st } : Line).slicer
        = _ from hx.2.2.1)]
    simp [Part.afterLeaving, Part.setLine]
  have k3 : ∀ (q : Part) (t : Option Timer), ((q.afterLeaving l st t).line l) = { q.line l with
      state := st, timer := t, queue := [], decoder := (q.line l).decoder.cleared st } := by
    intro q t
    simp [Part.afterLeaving, Part.setLine, Part.line_mk, Laws.get_set_self]
  simp only [Part.leaveFor, p.clearOut_eq, Part.enterWithTimer, ht,
    (p.abandoned l).enterWithTimer_flushed l st hd hb, key]
  rw [Part.lineStateReport, k3, hx.2.1]
  rfl

end Sys2Proof.Machine
end

