-- ==== Sys2Proof/Laws/Operands.lean ====
section
/-!
SUPPORT. What the characters of a command name (Machine/Operands.lean), what pushing a report does
(R163 to R165), and what the taking of a command does before its block sees it (R161).
-/

namespace Sys2Proof.Machine

/-! ### Indexes -/

theorem lineOf_lowChar (l : LineId) : lineOf (lowChar l.val) = some l := by
  revert l; decide

theorem profileOf_lowChar (i : ProfileId) : profileOf (lowChar i.val) = some i := by
  revert i; decide

theorem conventionOf_lowChar (i : ConventionId) : conventionOf (lowChar i.val) = some i := by
  revert i; decide

theorem symbolOf_symbolCode (x : Symbol) : symbolOf (symbolCode x) = some x := by
  revert x; decide

theorem lineOf_out (b : Byte) (h : 48 ≤ b.toNat) : lineOf b = none := by
  simp [lineOf]; omega

theorem profileOf_out (b : Byte) (h : 8 ≤ b.toNat) : profileOf b = none := by
  simp [profileOf]; omega

theorem conventionOf_out (b : Byte) (h : 4 ≤ b.toNat) : conventionOf b = none := by
  simp [conventionOf]; omega

theorem symbolsOf_symbolCodes (xs : List Symbol) : symbolsOf (xs.map symbolCode) = some xs := by
  induction xs with
  | nil => rfl
  | cons x xs ih => simp [symbolsOf, symbolOf_symbolCode, ih]

/-! ### Queues of reports -/

/-- A report that reaches a link is not queued, dropped and counted, or placed at the tail (R163 to R165). -/
theorem Link.push_cases (k : Link) (r : Report) :
    (k.state = .failed ∧ k.push r = k)
    ∨ (k.state ≠ .failed ∧ k.queue.length < 128 ∧ k.push r = { k with queue := k.queue ++ [r] })
    ∨ (k.state ≠ .failed ∧ 128 ≤ k.queue.length ∧ k.push r = { k with lost := min 65535 (k.lost + 1) }) := by
  unfold Link.push
  cases h : k.state <;> by_cases q : k.queue.length < 128 <;> simp [q] <;> omega

@[simp] theorem Link.push_state (k : Link) (r : Report) : (k.push r).state = k.state := by
  rcases k.push_cases r with ⟨_, h⟩ | ⟨_, _, h⟩ | ⟨_, _, h⟩ <;> rw [h]
@[simp] theorem Link.push_challenge (k : Link) (r : Report) : (k.push r).challenge = k.challenge := by
  rcases k.push_cases r with ⟨_, h⟩ | ⟨_, _, h⟩ | ⟨_, _, h⟩ <;> rw [h]
@[simp] theorem Link.push_auditTimer (k : Link) (r : Report) : (k.push r).auditTimer = k.auditTimer := by
  rcases k.push_cases r with ⟨_, h⟩ | ⟨_, _, h⟩ | ⟨_, _, h⟩ <;> rw [h]
@[simp] theorem Link.push_sending (k : Link) (r : Report) : (k.push r).sending = k.sending := by
  rcases k.push_cases r with ⟨_, h⟩ | ⟨_, _, h⟩ | ⟨_, _, h⟩ <;> rw [h]
@[simp] theorem Link.push_assembler (k : Link) (r : Report) : (k.push r).assembler = k.assembler := by
  rcases k.push_cases r with ⟨_, h⟩ | ⟨_, _, h⟩ | ⟨_, _, h⟩ <;> rw [h]
@[simp] theorem Link.push_receiver (k : Link) (r : Report) : (k.push r).receiver = k.receiver := by
  rcases k.push_cases r with ⟨_, h⟩ | ⟨_, _, h⟩ | ⟨_, _, h⟩ <;> rw [h]
@[simp] theorem Link.push_waiting (k : Link) (r : Report) : (k.push r).waiting = k.waiting := by
  rcases k.push_cases r with ⟨_, h⟩ | ⟨_, _, h⟩ | ⟨_, _, h⟩ <;> rw [h]

/-- A report for one link reaches that link alone. -/
theorem Part.report_link_self (p : Part) (lk : LinkId) (b : ReportBody) :
    (p.report lk b).link lk = (p.link lk).push ⟨p.stamp, b⟩ := by
  cases lk <;> rfl

theorem Part.report_link_other (p : Part) (lk : LinkId) (b : ReportBody) :
    (p.report lk b).link lk.other = p.link lk.other := by
  cases lk <;> rfl

/-- A report for both links reaches each (R164). -/
theorem Part.reportBoth_link (p : Part) (lk : LinkId) (b : ReportBody) :
    (p.reportBoth b).link lk = (p.link lk).push ⟨p.stamp, b⟩ := by
  cases lk <;> rfl

@[simp] theorem Part.report_link_state (p : Part) (lk m : LinkId) (b : ReportBody) :
    ((p.report lk b).link m).state = (p.link m).state := by
  cases lk <;> cases m <;> simp [Part.report, Part.updLink, Part.setLink, Part.link]

/-! ### Before the block -/

/-- A command on a link that takes commands reaches its block (R161). -/
theorem Part.onLink_takes (p : Part) (lk : LinkId) (f : Part → Part) (h : (p.link lk).state ≠ .failed) :
    p.onLink lk f = f p := by
  unfold Part.onLink
  cases k : (p.link lk).state <;> simp_all

/-- A command on a FAILED link is ignored (R172). -/
theorem Part.onLink_failed (p : Part) (lk : LinkId) (f : Part → Part) (h : (p.link lk).state = .failed) :
    p.onLink lk f = p := by
  simp [Part.onLink, h]

/-- A command for a line that exists reaches the line. -/
theorem Part.lineCommand_line (p : Part) (lk : LinkId) (kind : Byte) (l : LineId) (f : LineId → Part → Part)
    (h : (p.link lk).state ≠ .failed) : p.lineCommand lk kind (lowChar l.val) f = f l p := by
  rw [Part.lineCommand, p.onLink_takes lk _ h, lineOf_lowChar]

/-- A command for a line and a profile that exist reaches the line. -/
theorem Part.lineProfileCommand_line (p : Part) (lk : LinkId) (kind : Byte) (l : LineId) (i : ProfileId)
    (f : LineId → ProfileId → Part → Part) (h : (p.link lk).state ≠ .failed) :
    p.lineProfileCommand lk kind (lowChar l.val) (lowChar i.val) f = f l i p := by
  rw [Part.lineProfileCommand, p.onLink_takes lk _ h, lineOf_lowChar, profileOf_lowChar]

/-- A line command in a state its rule lists is taken (R65). -/
theorem Part.inStates_in (p : Part) (lk : LinkId) (kind line : Byte) (l : LineId) (states : List LineState)
    (f : Part → Part) (h : (p.line l).state ∈ states) : p.inStates lk kind line l states f = f p := by
  simp [Part.inStates, h]

/-- A line command in any other state is answered REJECT STATE (R65). -/
theorem Part.inStates_out (p : Part) (lk : LinkId) (kind line : Byte) (l : LineId) (states : List LineState)
    (f : Part → Part) (h : (p.line l).state ∉ states) :
    p.inStates lk kind line l states f = p.reject lk .state kind line := by
  simp [Part.inStates, h]

theorem enabledStates_mem (st : LineState) : st ∈ enabledStates ↔ st ≠ .disabled := by
  cases st <;> decide

end Sys2Proof.Machine
end

