-- ==== Sys2Proof/Laws/Links.lean ====
section
/-!
SUPPORT. What the operations of a link can do, each said once (Machine/LinkOps.lean).
-/

namespace Sys2Proof.Machine

/-- The transmitter takes the head report, or nothing happens (R167). -/
theorem Link.startSending_cases (k : Link) (ready : Bool) :
    (∃ r rest, k.sending = none ∧ k.queue = r :: rest ∧ ready = true
      ∧ k.startSending ready = { k with queue := rest, sending := some r.levels })
    ∨ k.startSending ready = k := by
  unfold Link.startSending
  split
  · next r rest h1 h2 => exact Or.inl ⟨r, rest, h1, h2, rfl, rfl⟩
  · exact Or.inr rfl

/-- A completion frees the transmitter, and may queue LOST (R166). -/
theorem Link.finishSending_cases (k : Link) (stamp : Half) :
    (k.sending = none ∧ k.finishSending stamp = k)
    ∨ (0 < k.lost ∧ k.queue.length < 128 ∧ k.finishSending stamp
        = { k with sending := none, queue := k.queue ++ [⟨stamp, .lost k.lost⟩], lost := 0 })
    ∨ (k.sending ≠ none ∧ k.finishSending stamp = { k with sending := none }) := by
  unfold Link.finishSending
  split
  · next h => exact Or.inl ⟨h, rfl⟩
  · next h =>
    split
    · next hl => exact Or.inr (Or.inl ⟨hl.1, hl.2, rfl⟩)
    · exact Or.inr (Or.inr ⟨by simp [h], rfl⟩)

/-- What the 11 positions of a character say is the character (R155). -/
@[simp] theorem dataOf_positions (ch : WireChar) : dataOf ch.positions = ch.data := by
  have h : ∀ d : Byte, dataOf (WireChar.positions ⟨d, true⟩) = d ∧ dataOf (WireChar.positions ⟨d, false⟩) = d := by
    decide +kernel
  obtain ⟨d, m⟩ := ch
  cases m
  · exact (h d).2
  · exact (h d).1

@[simp] theorem markOf_positions (ch : WireChar) : markOf ch.positions = ch.marked := by
  obtain ⟨d, m⟩ := ch
  cases m <;> rfl

/-- A character with its stop bit at marking is taken whole by a receiver that listens (R155). -/
theorem Link.takeCharacter_whole (lk : LinkId) (k : Link) (ch : WireChar) (n : Fin 3) (h : k.receiver = .listening) :
    k.takeCharacter lk ch.positions .marking n = k.takeWhole lk ch.data ch.marked := by
  have h0 : ch.positions.get 0 = .spacing := rfl
  simp [Link.takeCharacter, h, h0]

/-- A character moves only the assembler, the receiver and the waiting message (R155, R158). -/
theorem Link.takeCharacter_cases (lk : LinkId) (k : Link) (v : Vector WireLevel 10) (stop : WireLevel) (n : Fin 3) :
    ∃ a r w, k.takeCharacter lk v stop n = { k with assembler := a, receiver := r, waiting := w } := by
  have hw : ∀ d m, ∃ a r w, k.takeWhole lk d m = { k with assembler := a, receiver := r, waiting := w } := by
    intro d m
    unfold Link.takeWhole Link.collect
    repeat' split
    all_goals exact ⟨_, _, _, rfl⟩
  have hb : ∃ a r w, k.takeBroken = { k with assembler := a, receiver := r, waiting := w } := by
    unfold Link.takeBroken
    split <;> exact ⟨_, _, _, rfl⟩
  unfold Link.takeCharacter
  repeat' split
  all_goals first | exact ⟨_, _, _, rfl⟩ | exact hw _ _ | exact hb

/-- A tick moves only the counts of a link (R156, R159, R168). -/
theorem Link.tick_cases (k : Link) : ∃ t a r, k.tick = { k with auditTimer := t, assembler := a, receiver := r } :=
  ⟨_, _, _, rfl⟩

/-- A SUSPECT link that fails is emptied, and the other link is told (R171). -/
theorem Part.failLink_eq (p : Part) (lk : LinkId) (cause : PlaneCause) :
    p.failLink lk cause = (p.setLink lk { p.link lk with
      state := .failed, auditTimer := none, queue := [], lost := 0 }).report lk.other
        (.planeStatus lk .failed .suspect cause) := rfl

/-- A receive error is answered, fails the link, or is ignored (R162, R171, R172). -/
theorem Part.receiveError_cases (p : Part) (lk : LinkId) (e : ErrorInfo) :
    ((p.link lk).state = .alive ∧ p.receiveError lk e = p.report lk (.reject e.reason e.kind e.first e.length 0 0))
    ∨ ((p.link lk).state = .suspect ∧ p.receiveError lk e = p.failLink lk .receiveError)
    ∨ ((p.link lk).state = .failed ∧ p.receiveError lk e = p) := by
  unfold Part.receiveError
  split
  · next h => exact Or.inl ⟨h, rfl⟩
  · next h => exact Or.inr (Or.inl ⟨h, rfl⟩)
  · next h => exact Or.inr (Or.inr ⟨h, rfl⟩)

end Sys2Proof.Machine
end

