-- ==== Sys2Proof/Laws/Order.lean ====
section
/-!
SUPPORT. Steps taken for each line, each sender, each round: what every step keeps, the whole keeps.
-/

namespace Sys2Proof.Machine

/-- What every step of a fold keeps, the fold keeps. -/
theorem foldl_keeps {α β : Type} (I : β → Prop) (f : β → α → β) (hf : ∀ b x, I b → I (f b x)) (xs : List α) (b : β)
    (h : I b) : I (xs.foldl f b) := by
  induction xs generalizing b with
  | nil => exact h
  | cons x xs ih => exact ih _ (hf b x h)

theorem Part.forLines_keeps (I : Part → Prop) (f : LineId → Part → Part) (hf : ∀ l p, I p → I (f l p)) (p : Part)
    (h : I p) : I (p.forLines f) := foldl_keeps I _ (fun b l => hf l b) _ _ h

theorem Part.forSenders_keeps (I : Part → Prop) (f : SenderId → Part → Part) (hf : ∀ k p, I p → I (f k p)) (p : Part)
    (h : I p) : I (p.forSenders f) := foldl_keeps I _ (fun b k => hf k b) _ _ h

/-- The grant test keeps what each of its rounds keeps. -/
theorem Part.grantTest_keeps (I : Part → Prop) (hf : ∀ p, I p → I p.grantOnce) (p : Part) (h : I p) : I p.grantTest :=
  foldl_keeps I _ (fun b _ => hf b) _ _ h

/-- A judged line keeps what joining the grant queue and a round of the grant test keep. -/
theorem Part.judge_keeps (I : Part → Prop) (hf : ∀ p, I p → I p.grantOnce) (l : LineId)
    (hj : ∀ p, I p → p.eligible l = true → I { p with grantQueue := p.grantQueue ++ [l] }) (p : Part) (h : I p) :
    I (p.judge l) := by
  rcases p.judge_cases l with ⟨e, k⟩ | ⟨_, k⟩ <;> rw [k]
  · exact Part.grantTest_keeps I hf _ (hj p h e)
  · exact h

/-- A row acts on a working part, or changes nothing. -/
theorem State.onPart_cases (s : State) (f : Part → Part) :
    (s.hold.held = true ∧ s.onPart f = s) ∨ (s.hold.held = false ∧ s.onPart f = s.withPart (f s.part)) := by
  unfold State.onPart State.withPart
  cases s.hold.held
  · exact Or.inr ⟨rfl, rfl⟩
  · exact Or.inl ⟨rfl, rfl⟩

end Sys2Proof.Machine
end

