-- ==== Sys2Proof/Laws/Settle.lean ====
section
/-!
SUPPORT. Where nothing waits, taking what waits changes nothing: one lemma for each operation that takes
consequences (Machine/Arrivals.lean).
-/

namespace Sys2Proof.Machine

/-- A fold of steps that each leave the part alone leaves it alone. -/
theorem foldl_fixed {α β : Type} (f : β → α → β) (b : β) (xs : List α) (h : ∀ x ∈ xs, f b x = b) :
    xs.foldl f b = b := by
  induction xs with
  | nil => rfl
  | cons x xs ih =>
    rw [List.foldl_cons, h x List.mem_cons_self]
    exact ih (fun y hy => h y (List.mem_cons_of_mem x hy))

theorem Part.forLines_fixed (p : Part) (f : LineId → Part → Part) (h : ∀ l, f l p = p) : p.forLines f = p :=
  foldl_fixed _ _ _ (fun l _ => h l)

theorem Part.forSenders_fixed (p : Part) (f : SenderId → Part → Part) (h : ∀ k, f k p = p) : p.forSenders f = p :=
  foldl_fixed _ _ _ (fun k _ => h k)

/-- Tests that are made stay made. -/
theorem Part.finishTests_made (p : Part) (l : LineId) (h : (p.line l).decoder.tests = .made) : p.finishTests l = p := by
  simp [Part.finishTests, Part.confirmationStage, Part.gapStage, Part.clearStage, h]

theorem Part.settleSamples_settled (p : Part) (h : p.settled) : p.settleSamples = p :=
  p.forLines_fixed _ (fun l => p.finishTests_made l (h.1 l))

theorem Part.lockingTimeout_settled (p : Part) (h : p.settled) : p.lockingTimeout = p := by
  simp [Part.lockingTimeout, h.2.1]

/-- Before the first oscillator mark since it was started, and after an expiry, the watchdog does not expire. -/
theorem Part.watchdogExpiry_not_due (p : Part) (h : p.timeBase.watchdog = none ∨ p.timeBase.watchdog = some 0) :
    p.watchdogExpiry = p := by
  rcases h with h | h <;> simp [Part.watchdogExpiry, h]

theorem Part.settled_waiting (p : Part) (h : p.settled) (lk : LinkId) : (p.link lk).waiting = none := by
  cases lk
  · exact h.2.2.1
  · exact h.2.2.2

theorem Part.takeWaiting_settled (p : Part) (h : p.settled) (lk : LinkId) : p.takeWaiting lk = p := by
  simp [Part.takeWaiting, p.settled_waiting h lk]

/-- Nothing waits, so nothing is taken. -/
theorem Part.settleUrgent_settled (p : Part) (h : p.settled) : p.settleUrgent = p := by
  simp only [Part.settleUrgent, p.settleSamples_settled h, p.lockingTimeout_settled h, p.takeWaiting_settled h]

/-- A command that comes to a part on which nothing waits finds it as it is. -/
theorem Part.arrive_settled (p : Part) (h : p.settled) (lk : LinkId) (c : Instr) : p.arrive lk c = p := by
  simp [Part.arrive, p.settleSamples_settled h, p.lockingTimeout_settled h, p.takeWaiting_settled h,
    p.settled_waiting h]

/-- A line whose timer has not run out has no expiry. -/
theorem Part.expireLine_running (p : Part) (l : LineId) (h : (p.line l).timer.map Timer.remaining ≠ some 0) :
    p.expireLine l = p := by
  have e : ∀ k, (p.line l).expired k = false := by
    intro k
    simp only [Line.expired, decide_eq_false_iff_not]
    intro hk
    exact h (by rw [hk]; rfl)
  simp [Part.expireLine, Part.restExpiry, Part.seizeExpiry, Part.firstDigitExpiry, Part.partialExpiry,
    Part.settleExpiry, e]

theorem Part.expireLink_current (p : Part) (lk : LinkId) (h : (p.link lk).current) : p.expireLink lk = p := by
  obtain ⟨ha, hg, hb⟩ := h
  simp [Part.expireLink, Part.longBreak, Part.gapTimerExpiry, Part.auditExpiry, ha, hg, hb]

/-- Nothing is overdue, so nothing is taken before a tick. -/
theorem Part.settleExpiries_current (p : Part) (h : p.current) : p.settleExpiries = p := by
  obtain ⟨hr, hl, ha, hb⟩ := h
  have h1 : p.classReview = p := by simp [Part.classReview, hr]
  have h2 : p.forLines (fun l p => p.expireLine l) = p :=
    p.forLines_fixed _ (fun l => p.expireLine_running l (hl l))
  simp only [Part.settleExpiries, h1, h2, p.expireLink_current .a ha, p.expireLink_current .b hb]

/-- No phase end is due, so none is taken before a frame. -/
theorem Part.settlePhases_current (p : Part) (h : p.phasesCurrent) : p.settlePhases = p := by
  refine p.forSenders_fixed _ (fun k => ?_)
  obtain ⟨h1, h2⟩ := h k
  simp [Part.onPhaseEnd, Part.toneOffEnd, h1, h2]

end Sys2Proof.Machine
end

