-- ==== Sys2Proof/Tests/Slice0.lean ====
section
/-!
SUPPORT. Tests of single rows on small states, expected values from the rules and worked cases of spec/ (each theorem names
its source), the smoke test of the size checks, and the witnesses that the hypotheses of the statements can be met.
-/

set_option Elab.async false

namespace Sys2Proof.Tests

open Sys2Proof.Machine

/-! ### Helpers -/

/-- The reset state with its part changed. -/
def rig (f : Part → Part) : State := State.reset.withPart (f State.reset.part)

/-- The reset state with line 0 changed. -/
def withLine (f : Line → Line) : State := rig (fun p => p.updLine 0 f)

/-- The reset state with line 0 in a state. -/
def inState (st : LineState) : State := withLine (fun x => { x with state := st })

/-- The reset state with link A changed. -/
def withLink (f : Link → Link) : State := rig (fun p => p.updLink .a f)

/-- The reset state with the time base changed. -/
def withTime (f : TimeBase → TimeBase) : State := rig (fun p => p.setTimeBase f)

/-- What a row leaves; the state itself where it answers no next state. -/
def after (c : Instr) (s : State) : State :=
  match exec c s with
  | .next t => t
  | .fault _ => s
  | .refused _ => s

/-- A dialled cell of symbol 5. -/
def cellFive : Cell := ⟨5, .dialled, some 5, none, 1, 0, false⟩

/-- Line 0 ACTIVE with its gate OPEN. -/
def open0 (x : Line) : Line := { x with state := .active, gate := .open }

/-- A LOCKED part whose line 0 holds sender 0, `elapsed` frames into a phase, with a second cell behind the head. -/
def playing (st : SenderState) (elapsed : Nat) (head : Bool) : Part :=
  { ((State.reset.part.setTimeBase (fun t => { t with state := .locked })).updLine 0 (fun x =>
      { open0 x with queue := [{ cellFive with sending := head }, cellFive], sender := some 0, runCount := 1 })).setSender 0
    ⟨st, some 0, (if st = .toneOn then some 5 else none), elapsed, some ⟨70, 70, 40, 4000, 5000⟩
      , (if st = .toneOn then some (0, 0) else none)⟩ with free := 254 }

/-- A scan frame that reads `c` for every line, with its check byte. -/
def frameOf (c : Byte) : List Byte := List.replicate 48 c ++ [-(48 * c)]

/-- A part whose scan period is open at time `t`. -/
def scanning (p : Part) (t : LineTime) : Part :=
  { p with
    timeBase := { p.timeBase with lineTime := t }
    scan := { p.scan with period := some t } }

/-- A line in `st` whose run in progress and ended run are as given, with the tests of its sample still to be made. -/
def testing (st : LineState) (loop : Loop) (run : Run) (ended : Option Run) (tests : SampleTests) (x : Line) : Line :=
  { x with
    state := st
    slicer := { x.slicer with debounced := loop }
    decoder := { x.decoder with run := run, ended := ended, tests := tests } }

/-! ### Size checks -/

theorem test_scan_frame_of_48_is_ill_formed : (Instr.scanFrame (List.replicate 48 0)).wellFormed = false := by decide

theorem test_highway_frame_of_63_is_ill_formed : (Instr.highwayFrame (List.replicate 63 0)).wellFormed = false := by decide

theorem test_inject_of_40_symbols_is_ill_formed : (Instr.inject .a 0 (List.replicate 40 0)).wellFormed = false := by
  decide

theorem test_sizes_that_arrive :
    (Instr.scanFrame (List.replicate 49 0)).wellFormed = true
      ∧ (Instr.highwayFrame (List.replicate 64 0)).wellFormed = true
      ∧ (Instr.inject .a 0 (List.replicate 39 0)).wellFormed = true := by decide

/-! ### Rows -/

/-- R178: the first tick after reset gives line time 1. -/
theorem test_oscillator_first_tick : (after .oscillatorMillisecond State.reset).part.timeBase.lineTime = 1 := by
  decide +kernel

/-- 1.5: the first sample of the damp loop at line 22 moves Lo to 16 and leaves the loop OPEN. -/
theorem test_scan_first_sample :
    let s := rig (fun p => scanning (p.updLine 22 (fun x => x.enabled 0 Profile.default)) 5114)
    let t := after (.scanFrame (frameOf 8)) (s.withPart (s.part.updLine 22 (fun x => { x with state := .idle })))
    (t.part.line 22).slicer.lo = 16 ∧ (t.part.line 22).slicer.debounced = .open := by decide +kernel

/-- 1.5: a further sample of the damp loop moves Lo from 16 to 30. -/
theorem test_scan_tracks_level :
    let s := rig (fun p => scanning (p.updLine 0 (fun x => { x with state := .idle, slicer := { x.slicer with lo := 16 } })) 9)
    ((after (.scanFrame (frameOf 8)) s).part.line 0).slicer.lo = 30 := by decide +kernel

/-- 1.5: a review with Lc 640 and Lo 69 makes the line DAMP; with Lo 61 it stays CLEAN. -/
theorem test_class_review_damp :
    let s := fun lo => (withLine (fun x => { x with state := .idle, slicer := { x.slicer with lo := lo } }))
    let due := fun (s : State) => s.withPart (s.part.setTimeBase (fun t => { t with reviewDue := true }))
    ((after .classReview (due (s 69))).part.line 0).slicer.cls = .damp
      ∧ ((after .classReview (due (s 61))).part.line 0).slicer.cls = .clean := by decide +kernel

/-- R27, R32: a break of 100 ms with P_est 1600 is a PULSE; one of 101 ms is INVALID. -/
theorem test_run_confirmation_pulse :
    let s := fun b => withLine (testing .active .closed ⟨.closed, 200, 20, false⟩ (some ⟨.open, 0, b, true⟩) .confirmation)
    ((after (.runConfirmation 0) (s 100)).part.line 0).decoder.digit.map Digit.count = some 1
      ∧ ((after (.runConfirmation 0) (s 101)).part.line 0).decoder.digit.map Digit.mutilated = some true := by
  decide +kernel

/-- R38, R39: three pulses and a gap under convention 0 store symbol 3. -/
theorem test_gap_stores_digit :
    let s := withLine (fun x => (testing .active .closed ⟨.closed, 0, 200, true⟩ none .limit x).withDecoder
      (fun d => { d with digit := some ⟨3, false, 200, 2, 200, 600, 0⟩ }))
    ((after (.gap 0) s).part.line 0).queue.map Cell.symbol = [3]
      ∧ ((after (.gap 0) s).part.line 0).queue.map Cell.mean = [some 100] := by decide +kernel

/-- R28, R58: an open run of clear_time takes an ACTIVE line to IDLE; one of 1 ms less does not. -/
theorem test_clear :
    let s := fun n => withLine (testing .active .open ⟨.open, 0, n, true⟩ none .limit)
    ((after (.clear 0) (s 600)).part.line 0).state = .idle ∧ ((after (.clear 0) (s 599)).part.line 0).state = .active := by
  decide +kernel

/-- R59, R178: an open run begun 999 ms after the call start, or at it, makes a short call; one begun 1000 ms after it, or
1 ms before it, does not. -/
theorem test_short_call :
    let s := fun t => withLine (fun x => { testing .active .open ⟨.open, 1999, 600, true⟩ none .limit x with callStart := some t })
    [999, 1000, 1999, 2000].map (fun t => ((after (.clear 0) (s t)).part.line 0).flaps) = [0, 1, 1, 0] := by
  decide +kernel

/-- R55: the REST timer's expiry returns the flap count to 0. -/
theorem test_rest_expiry :
    ((after (.restExpiry 0) (withLine (fun x => { x with state := .idle, flaps := 3, timer := some ⟨.rest, 0⟩ }))).part.line
      0).flaps = 0 := by decide +kernel

/-- R53: the SEIZE timer's expiry takes the line to ACTIVE with the gate from seize_gate. -/
theorem test_seize_expiry :
    let t := after (.seizeExpiry 0) (withLine (fun x => { x with state := .seizing, timer := some ⟨.seize, 0⟩ }))
    (t.part.line 0).state = .active ∧ (t.part.line 0).timer = some ⟨.firstDigit, 15000⟩ := by decide +kernel

/-- R56: the FIRST_DIGIT timer's expiry parks the line. -/
theorem test_first_digit_expiry :
    ((after (.firstDigitExpiry 0) (withLine (fun x => { x with state := .active, timer := some ⟨.firstDigit, 0⟩ }))).part.line
      0).state = .parked := by decide +kernel

/-- R56, R86: the PARTIAL timer's expiry parks the line and frees its cells. -/
theorem test_partial_expiry :
    let s := withLine (fun x => { x with state := .active, queue := [cellFive], timer := some ⟨.partialDial, 0⟩ })
    ((after (.partialExpiry 0) s).part.line 0).state = .parked ∧ ((after (.partialExpiry 0) s).part.line 0).queue = [] := by
  decide +kernel

/-- R64: the SETTLE timer's expiry parks a line whose loop is CLOSED. -/
theorem test_settle_expiry :
    let s := withLine (fun x =>
      { x with state := .quarantine, timer := some ⟨.settle, 0⟩, slicer := { x.slicer with debounced := .closed } })
    ((after (.settleExpiry 0) s).part.line 0).state = .parked := by decide +kernel

/-- R127, R130: a frame is copied in slots of lines that pass and in slots 48 to 63, and muted for a PARKED line. -/
theorem test_highway_frame_paths :
    let t := after (.highwayFrame (List.replicate 64 7)) (inState .parked)
    (t.outgoing.getD []).take 2 = [0, 7] ∧ (t.outgoing.getD []).length = 64 := by decide +kernel

/-- 9.5: the 128th frame of a run enters LOCKED. -/
theorem test_highway_frame_locks :
    ((after (.highwayFrame (List.replicate 64 0)) (withTime (fun t => { t with runCount := 127 }))).part.timeBase.state
      = .locked) := by decide +kernel

/-- R179: a short frame changes nothing. -/
theorem test_short_frame : after .shortFrame State.reset = State.reset := by decide +kernel

/-- R101, R102: at 560 frames of a burst of 70 ms the cell is committed; at 559 it is not. -/
theorem test_on_phase_end :
    let s := fun n => State.reset.withPart (playing .toneOn n true)
    ((after (.onPhaseEnd 0) (s 560)).part.sender 0).state = .toneOff
      ∧ ((after (.onPhaseEnd 0) (s 559)).part.sender 0).state = .toneOn := by decide +kernel

/-- 5.10, R104: at the end of TONE_OFF the sender continues on its line while its run count is below run_limit. -/
theorem test_tone_off_end :
    let t := after (.toneOffEnd 0) (State.reset.withPart (playing .toneOff 560 false))
    (t.part.sender 0).state = .toneOn ∧ (t.part.line 0).runCount = 2 := by decide +kernel

/-- A burst at its frame 163 with commit 40, and the watchdog at `n` oscillator marks. -/
def watchedBurst (n : Nat) : State :=
  State.reset.withPart ((playing .toneOn 163 true).setTimeBase (fun t => { t with watchdog := some n }))

/-- 9.5: the watchdog's expiry at frame 163 of a burst with commit 40 aborts the sender; the line rejoins the queue. -/
theorem test_frame_watchdog_expiry :
    let t := after .frameWatchdogExpiry (watchedBurst 1)
    t.part.timeBase.state = .fallback ∧ t.part.grantQueue = [0] := by decide +kernel

/-- R180: a frame taken first starts the watchdog afresh, and it does not expire. -/
theorem test_frame_before_watchdog_expiry :
    (after (.highwayFrame (List.replicate 64 0)) (watchedBurst 1)).part.timeBase.watchdog = some 0
      ∧ after .frameWatchdogExpiry (watchedBurst 0) = watchedBurst 0 := by decide +kernel

/-- R183: the LOCKING timeout keeps the run count. -/
theorem test_locking_timeout :
    let t := after .lockingTimeout (withTime (fun t => { t with lockingDue := true, runCount := 9 }))
    t.part.timeBase.state = .fallback ∧ t.part.timeBase.runCount = 9 := by decide +kernel

/-- R188: the cause of a reset that the reset input begins is EXTERNAL. -/
theorem test_reset_input : (after .resetInput State.reset).part.timeBase.resetCause = .external := by decide +kernel

/-- R188: a fall of the supply after the reset input does not change the record. -/
theorem test_supply_low :
    (after .supplyLow State.reset).part.timeBase.resetCause = .lowSupply
      ∧ (after .supplyLow (after .resetInput State.reset)).part.timeBase.resetCause = .external := by decide +kernel

/-- R188: the cause is POWER_ON whatever held the part before. -/
theorem test_power_on : (after .powerOn (after .resetInput State.reset)).part.timeBase.resetCause = .powerOn := rfl

/-- R187: the transmit wires are at marking while the part is held, after POWER_ON too. -/
theorem test_power_on_wires :
    (after .powerOn State.reset).part.linkA.sending = none ∧ (after .powerOn State.reset).part.linkB.sending = none :=
  ⟨rfl, rfl⟩

/-- R189, R156: a link whose wire is at spacing at the end of a reset takes nothing until it marks. -/
theorem test_part_reset_end :
    let t := after (.partResetEnd .spacing .marking) (after .resetInput (inState .active))
    (t.part.line 0).state = .disabled ∧ t.part.linkA.receiver = .deaf := by decide +kernel

/-- R169: an AUDIT with the right challenge is accepted, and the challenge rises by one. -/
theorem test_audit :
    (after (.audit .a 0) State.reset).part.linkA.challenge = 1
      ∧ (after (.audit .a 5) State.reset).part.linkA.challenge = 0 := by decide +kernel

/-- R66, R12: ENABLE places the line in IDLE with Lc at 16 times the nominal current. -/
theorem test_enable :
    let t := after (.enable .a 22 0) State.reset
    (t.part.line 22).state = .idle ∧ (t.part.line 22).slicer.lc = 640 := by decide +kernel

/-- R67: DISABLE. -/
theorem test_disable : ((after (.disable .a 0) (inState .parked)).part.line 0).state = .disabled := by decide +kernel

/-- R145: SET PROFILE of an IDLE line. -/
theorem test_set_profile : ((after (.setProfile .b 0 7) (inState .idle)).part.line 0).profile = 7 := by decide +kernel

/-- R68: OPEN GATE and SHUT GATE. -/
theorem test_gates :
    ((after (.openGate .a 0) (inState .active)).part.line 0).gate = .open
      ∧ ((after (.shutGate .a 0) (withLine open0)).part.line 0).gate = .shut := by decide +kernel

/-- R69, R70, R71: CONVERSE, RESUME and PARK. -/
theorem test_converse_resume_park :
    ((after (.converse .a 0) (inState .active)).part.line 0).state = .converse
      ∧ ((after (.resume .a 0) (inState .converse)).part.line 0).state = .active
      ∧ ((after (.park .a 0) (inState .converse)).part.line 0).state = .parked := by decide +kernel

/-- R72: RESTORE of a PARKED line by an open loop. -/
theorem test_restore : ((after (.restore .a 0) (inState .parked)).part.line 0).state = .idle := by decide +kernel

/-- R88, R86: WITHDRAW frees the cells and the line stays ACTIVE. -/
theorem test_withdraw :
    let s := State.reset.withPart (playing .toneOff 10 false)
    (after (.withdraw .a 0) s).part.free = 256 ∧ ((after (.withdraw .a 0) s).part.line 0).state = .active := by
  decide +kernel

/-- R91, R77: the indexes of an INJECT go on after 255 with 1. -/
theorem test_inject :
    let s := withLine (fun x => { open0 x with digitIndex := 254 })
    ((after (.inject .a 0 [11, 15]) s).part.line 0).queue.map (fun c => (c.symbol, c.index)) = [(11, 255), (15, 1)] := by
  decide +kernel

/-- 7.7: RELEARN under P_nom 150 gives P_est 2400. -/
theorem test_relearn :
    let s := (inState .active).withPart ((inState .active).part.setProfile 0 { Profile.default with pNom := 150 })
    ((after (.relearn .a 0) s).part.line 0).decoder.pEst = 2400 := by decide +kernel

/-- R44, R45: TRACE ON takes the lower-numbered free slot; TRACE OFF frees it. -/
theorem test_trace :
    let t := after (.traceOn .a 0) (inState .idle)
    (t.part.line 0).trace = some 0 ∧ ((after (.traceOff .a 0) t).part.line 0).trace = none := by decide +kernel

/-- R73: QUERY LINE is answered on the issuing link alone. -/
theorem test_query_line :
    let t := after (.queryLine .b 3) State.reset
    t.part.linkB.queue.length = 2 ∧ t.part.linkA.queue.length = 1 := by decide +kernel

/-- The profile that plane A writes in 7.7. -/
def writtenProfile : RawProfile :=
  ⟨150, 40, 60, 250, 180, 15, 20, 10, 5, 0, 0, 90, 70, 100, 4000, 5000⟩

/-- 7.7: clear_time is raised to 300 and commit lowered to 90; the indication carries clear_time and commit. -/
theorem test_write_profile :
    let t := after (.writeProfile .a 4 writtenProfile) State.reset
    (t.part.profile 4).clearTime = 300 ∧ (t.part.profile 4).commit = 90
      ∧ t.part.linkA.queue.getLast? = some ⟨0, .ack 0x11 (some 4) 0x2010⟩ := by decide +kernel

/-- R141: an unknown entry code is stored as NONE. -/
theorem test_write_convention :
    let t := after (.writeConvention .a 3 #v[1, 2, 16, 255, 5, 6, 7, 8, 9, 15]) State.reset
    t.part.convention 3 = #v[some 1, some 2, none, none, some 5, some 6, some 7, some 8, some 9, some 15] := by
  decide +kernel

/-- R139: audit_period is rounded down to a multiple of 250. -/
theorem test_write_globals :
    (after (.writeGlobals .a ⟨1999, 0, 40⟩) State.reset).part.globals = ⟨1750, 1, 32⟩ := by decide +kernel

/-- R144: READ SETTINGS of the globals ignores its index. -/
theorem test_read_settings :
    (after (.readSettings .a 3 99) State.reset).part.linkA.queue.getLast?
      = some ⟨0, .profileReply (.globals ⟨2000, 4, 32⟩)⟩ := by decide +kernel

/-- R171: a receive error on a SUSPECT link makes it FAILED. -/
theorem test_receive_error :
    let s := withLink (fun k => { k with state := .suspect, waiting := some (.error ⟨.check, 3, none, 0⟩) })
    (after (.receiveError .a) s).part.linkA.state = .failed := by decide +kernel

/-- R159: the gap timer's expiry returns the assembler to WAIT. -/
theorem test_gap_timer_expiry :
    (after (.gapTimerExpiry .a) (withLink (fun k => { k with assembler := .collect 2 [] 11 }))).part.linkA.assembler
      = .wait := by decide +kernel

/-- R156, R174: a break of 19 ticks is short; at 20 the link restarts. -/
theorem test_breaks :
    let s := fun n => withLink (fun k => { k with receiver := .breaking n, state := .suspect })
    (after (.shortBreak .a) (s 19)).part.linkA.state = .suspect ∧ (after (.longBreak .a) (s 20)).part.linkA.state = .alive := by
  decide +kernel

/-- R156: the return to marking after a long break. -/
theorem test_return_to_marking :
    (after (.returnToMarking .a) (withLink (fun k => { k with receiver := .deaf }))).part.linkA.receiver = .listening := by
  decide +kernel

/-- R170: the audit timer's expiry in ALIVE makes the link SUSPECT, with a full timer. -/
theorem test_audit_timer_expiry :
    let t := after (.auditTimerExpiry .a) (withLink (fun k => { k with auditTimer := some 0 }))
    t.part.linkA.state = .suspect ∧ t.part.linkA.auditTimer = some 2000 := by decide +kernel

/-- R167: nothing is sent while the ready line is deasserted. -/
theorem test_report_transmission_start :
    (after (.reportTransmissionStart .a true) State.reset).part.linkA.queue = []
      ∧ (after (.reportTransmissionStart .a false) State.reset).part.linkA.sending = none := by decide +kernel

/-- 8.9: a completion that finds 127 reports queued and 5 lost queues LOST (5). -/
theorem test_report_transmission_complete :
    let s := withLink (fun k =>
      { k with sending := some [], lost := 5, queue := List.replicate 127 ⟨0, .scan .running⟩ })
    let t := after (.reportTransmissionComplete .a) s
    t.part.linkA.queue.getLast? = some ⟨0, .lost 5⟩ ∧ t.part.linkA.lost = 0 := by decide +kernel

/-- An unmarked character of value 41 as it is sampled: start bit, data with the least significant bit first, mark flag
(R155). -/
def lengthFortyOne : Vector WireLevel 10 :=
  #v[.spacing, .marking, .spacing, .spacing, .marking, .spacing, .marking, .spacing, .spacing, .spacing]

/-- R158: a length above 40 is a receive error at once. -/
theorem test_character_taken :
    (after (.characterTaken .a lengthFortyOne .marking 0) (withLink (fun k => { k with assembler := .collect 2 [] 0 }))).part.linkA.waiting
      = some (.error ⟨.length, 2, none, 41⟩) := by decide +kernel

/-- R156: with all 11 positions at spacing a break begins, measured from the leading edge. -/
theorem test_break_begins :
    (after (.characterTaken .a (Vector.replicate 10 .spacing) .spacing 1) State.reset).part.linkA.receiver = .breaking 1 := by
  decide +kernel

/-- R156: a message in COLLECT when a break began ends as FRAMING, though the break outlasts its gap timer. -/
theorem test_break_holds_the_gap_timer :
    let s := withLink (fun k => (({ k with assembler := .collect 2 [2, 22] 10, receiver := .breaking 3 } : Link).tick).tick)
    let t := after (.shortBreak .a) (after (.gapTimerExpiry .a) s)
    t.part.linkA.queue.getLast? = some ⟨0, .reject .framing 2 (some 22) 0 0 0⟩ := by decide +kernel

/-- R155, 10.1: the kind character of an ENABLE on the wire. -/
theorem test_character_positions :
    WireChar.levels ⟨0x02, true⟩
      = [.spacing, .spacing, .marking, .spacing, .spacing, .spacing, .spacing, .spacing, .spacing, .marking, .marking] := by
  decide

/-! ### Layouts, arithmetic and the time base -/

/-- 10.2: ENABLE of line 22 on profile 0. -/
theorem test_enable_message :
    envelope 0x02 [0x16, 0x00]
      = [⟨0x02, true⟩, ⟨0x02, false⟩, ⟨0x16, false⟩, ⟨0x00, false⟩, ⟨0xE6, false⟩] := by decide

/-- 6.5: samples of frames 2, 3 and 11 of symbol 5 at default amplitudes. -/
theorem test_tone_samples :
    toneSample 4000 5000 6308 10945 = 6510 ∧ toneSample 4000 5000 12616 21890 = 8081
      ∧ toneSample 4000 5000 63080 43914 = -5321 := by decide +kernel

/-- 6.6: saturation. -/
theorem test_saturation :
    toneSample 32767 32767 6308 10945 = 32767 ∧ toneSample 32767 32767 63080 43914 = -32767 := by decide +kernel

/-- R165: at 128 entries a report is dropped and counted. -/
theorem test_queue_full :
    let k := (Link.atReset .powerOn .marking).push ⟨0, .lost 0⟩
    ({ k with queue := List.replicate 128 ⟨0, .lost 0⟩ }.push ⟨0, .lost 0⟩).lost = 1 := by decide +kernel

/-- The table gives no row any bits. -/
theorem test_no_word_is_a_row : decodeTableWord 8 2 = none := rfl

/-! ### Witnesses

One theorem for each statement of Certificates/Slice0/Obligations.lean that has hypotheses, named after it: a state and
operands that meet them, for each clause, at the boundary values of its ranges. A hypothesis that only names a part of the
state (`x = s.part.line l`) is met by taking that part for the name, and is left out. -/

/-- Every size and state check of a ready state whose link A takes commands. -/
abbrev ready (s : State) : Prop := s.ready ∧ s.part.takes .a

theorem witness_StepTakesTheFrontCommand : State.reset.pending = [] := rfl

/-- Line 0 with the tests of a sample still to be made. -/
def unsettled : State := withLine (testing .active .closed ⟨.closed, 0, 30, false⟩ (some ⟨.open, 0, 60, true⟩) .confirmation)

theorem witness_WaitingConsequencesComeFirst :
    State.reset.part.settled
      ∧ (unsettled.hold.held = false ∧ commandMessage .classReview = none ∧ ¬ unsettled.part.settled)
      ∧ commandMessage (.openGate .a 0) = some (.a, 0x05, [0])
      ∧ (unsettled.part.link .a).waiting ≠ some (.command (.openGate .a 0)) ∧ unsettled.part.linkA.waiting = none := by
  decide +kernel

theorem witness_RowsThatAreNotDueChangeNothing :
    State.reset.ready ∧ State.reset.part.timeBase.reviewDue = false ∧ (State.reset.part.line 0).timer ≠ some ⟨.rest, 0⟩
      ∧ (State.reset.part.sender 0).onPhaseDone = false ∧ (State.reset.part.sender 0).offPhaseDone = false
      ∧ State.reset.part.timeBase.watchdog = some 0
      ∧ ((withTime (fun t => { t with watchdog := none })).ready
        ∧ (withTime (fun t => { t with watchdog := none })).part.timeBase.watchdog = none)
      ∧ ((withLink (fun k => { k with receiver := .breaking 19 })).ready
        ∧ ((withLink (fun k => { k with receiver := .breaking 19 })).part.link .a).breakLong = false)
      ∧ (State.reset.part.link .a).gapExpired = false ∧ (State.reset.part.link .a).receiver = .listening
      ∧ (State.reset.part.link .a).auditTimer ≠ some 0 ∧ (State.reset.part.link .a).sending = none := by decide +kernel

/-- A part held in reset by its reset input. -/
def heldPart : State := after .resetInput (inState .active)

theorem witness_PartResetEndSetsEveryBlock :
    heldPart.hold.held = true ∧ ∀ w, Link.atReset .external w =
      { state := .alive, challenge := 0, auditTimer := some 2000
        queue := [⟨0, .linkStart .partReset .external 0 .locking .running⟩], lost := 0, sending := none
        assembler := .wait, receiver := (match w with | .marking => .listening | .spacing => .deaf), waiting := none } :=
  ⟨by decide +kernel, fun w => by cases w <;> rfl⟩

theorem witness_ResetsRecordTheirCauseAndHold :
    State.reset.ready ∧ heldPart.hold.held = true ∧ (List.replicate 64 (0 : Half)).length = 64
      ∧ (List.replicate 63 (0 : Half)).length < 64 := by decide +kernel

/-- A slicer with three candidate samples. -/
def slicerThree : Slicer := { Slicer.atReset with candidate := 3 }

theorem witness_SlicerTakesASample :
    slicerThree.lo ≤ slicerThree.lc ∧ ((640 + 0) / 2 : Nat) = (320 : Int) ∧ ((640 - 0) / 8 : Nat) = (80 : Int)
      ∧ (slicerThree.debounced = .open ∧ (320 : Int) + 80 < 16 * 26 ∧ 4 ≤ 3 + 1)
      ∧ ¬ ((320 : Int) + 80 < 16 * 25) := by decide

/-- Lines 0 and 1 IDLE, the others DISABLED, in an open scan period. -/
def scanned (f : Line → Line) : State :=
  rig (fun p => scanning ((p.updLine 0 f).updLine 1 (fun x => { x with state := .idle })) 5000)

/-- What the statements about frames ask of the state. -/
abbrev framed (s : State) : Prop :=
  s.ready ∧ s.part.supervisionKept ∧ s.part.scan.period = some 5000 ∧ s.part.scan.received = []

/-- What they ask of a good frame. -/
abbrev goodFrame (bytes : List Byte) : Prop :=
  bytes.length = 49 ∧ (∀ l : LineId, (bytes.getD l.val 0).toNat < 128) ∧ (bytes.map BitVec.toNat).sum % 256 = 0

/-- A frame with a top bit set, whose sum is right. -/
def topBit : List Byte := 128 :: List.replicate 47 0 ++ [128]

/-- What they ask of a bad frame. -/
abbrev badFrame (bytes : List Byte) : Prop :=
  bytes.length = 49
    ∧ ((∃ l : LineId, 128 ≤ (bytes.getD l.val 0).toNat) ∨ (bytes.map BitVec.toNat).sum % 256 ≠ 0)

/-- An IDLE line. -/
def idle (x : Line) : Line := { x with state := .idle }

/-- The state with `n` consecutive misses. -/
def missed (n : Nat) (s : State) : State :=
  s.withPart { s.part with scan := { s.part.scan with misses := n } }

theorem witness_FramesHandEveryLineItsSample :
    (framed (scanned idle) ∧ (scanned idle).part.scan.state = .running ∧ goodFrame (frameOf 127)
        ∧ (∀ l : LineId, (heldOf (frameOf 127)).get l = (frameOf 127).getD l.val 0))
      ∧ (framed (missed 6 (scanned idle)) ∧ badFrame topBit ∧ (missed 6 (scanned idle)).part.scan.misses < 7)
      ∧ ((scanned idle).part.line 2).state = .disabled ∧ ((scanned idle).part.line 1).slicer.awaitingFirst = false
      ∧ (((scanned idle).part.line 1).slicer.take 127).debounced = .open := by
  (repeat' apply And.intro) <;> decide +kernel

/-- A line whose next sample on the other side completes a transition. -/
def turning (st : LineState) (loop : Loop) (run : Run) (ended : Option Run) (flaps : Nat) (x : Line) : Line :=
  { x with
    state := st
    flaps := flaps
    slicer := { x.slicer with debounced := loop, candidate := 3 }
    decoder := { x.decoder with run := run, ended := ended } }

/-- What the statement about transitions asks of a state and a frame. -/
abbrev turns (f : Line → Line) (c : Byte) (new : Loop) : Prop :=
  framed (scanned f) ∧ (scanned f).part.scan.state = .running ∧ goodFrame (frameOf c)
    ∧ ((scanned f).part.line 0).state ≠ .disabled ∧ ((scanned f).part.line 0).slicer.awaitingFirst = false
    ∧ ((scanned f).part.line 0).slicer.candidate ≤ 8 ∧ (((scanned f).part.line 0).slicer.take c.toNat).debounced = new
    ∧ new ≠ ((scanned f).part.line 0).slicer.debounced

/-- A line in ACTIVE whose closed run, begun at 4000, ends. -/
def turnConfirmed : Line → Line := turning .active .closed ⟨.closed, 4000, 65534, true⟩ none 0

/-- A line in CONVERSE whose open spike ends. -/
def turnSpike : Line → Line := turning .converse .open ⟨.open, 4990, 9, false⟩ (some ⟨.closed, 4000, 990, true⟩) 0

/-- An IDLE line whose loop closes. -/
def turnSeize : Line → Line := turning .idle .open ⟨.open, 0, 5000, true⟩ none 0

/-- A SEIZING line whose loop opens, with `n` flaps counted. -/
def turnAbandon (n : Nat) : Line → Line := turning .seizing .closed ⟨.closed, 4980, 20, true⟩ none n

/-- A QUARANTINE line whose loop opens. -/
def turnSettle : Line → Line := turning .quarantine .closed ⟨.closed, 4980, 20, true⟩ none 0

theorem witness_TransitionsEndTheRun :
    turns turnConfirmed 0 .open ∧ turns turnSpike 40 .closed ∧ turns turnSeize 40 .closed
      ∧ turns (turnAbandon 3) 0 .open ∧ turns (turnAbandon 4) 0 .open ∧ turns turnSettle 0 .open := by
  (repeat' apply And.intro) <;> decide +kernel

/-- A line just ENABLEd. -/
def enabled (x : Line) : Line := { x.enabled 0 Profile.default with state := .idle, timer := some ⟨.rest, 30000⟩ }

theorem witness_FirstSampleSetsTheLoopDirectly :
    framed (scanned enabled) ∧ goodFrame (frameOf 20) ∧ goodFrame (frameOf 21)
      ∧ ((scanned enabled).part.line 0).slicer.awaitingFirst = true
      ∧ ((scanned enabled).part.line 0).slicer.lo ≤ ((scanned enabled).part.line 0).slicer.lc := by decide +kernel

/-- A line with a digit of two pulses in progress. -/
def dialling (x : Line) : Line :=
  { x with state := .active, decoder := { x.decoder with digit := some ⟨2, false, 100, 1, 200, 600, 0⟩ } }

/-- The state with its scan LOST. -/
def lostScan (s : State) : State :=
  s.withPart { s.part with scan := { s.part.scan with state := .lost, misses := 8 } }

theorem witness_EighthMissLosesTheScan :
    framed (missed 7 (scanned dialling)) ∧ badFrame topBit ∧ (missed 7 (scanned dialling)).part.scan.state = .running
      ∧ framed (lostScan (scanned dialling)) := by
  (repeat' apply And.intro) <;> decide +kernel

/-- What the statement about incomplete frames asks of the state. -/
abbrev cutShort (s : State) : Prop :=
  s.ready ∧ s.part.current ∧ s.part.supervisionKept ∧ s.part.timeBase.state ≠ .locked
    ∧ s.part.timeBase.watchdog = some 0 ∧ s.part.scan.period = some 5000 ∧ s.part.scan.received.length < 49

/-- Two audit timers that run, and 48 bytes received. -/
def halfFrame (s : State) : State := s.withPart { s.part with scan := { s.part.scan with received := List.replicate 48 0 } }

theorem witness_IncompleteFramesAreMisses :
    (cutShort (halfFrame (missed 6 (scanned dialling)))
        ∧ ((halfFrame (missed 6 (scanned dialling))).part.line 0).slicer.awaitingFirst = false)
      ∧ cutShort (missed 7 (scanned dialling)) ∧ cutShort (lostScan (scanned dialling)) := by
  (repeat' apply And.intro) <;> decide +kernel

theorem witness_GoodFrameRestoresTheScan :
    (framed (lostScan (scanned idle)) ∧ (lostScan (scanned idle)).part.scan.state = .lost ∧ goodFrame (frameOf 0)
        ∧ (lostScan (scanned idle)).part.takes .a ∧ ((lostScan (scanned idle)).part.link .a).queue.length < 128)
      ∧ (framed (lostScan (scanned turnConfirmed))
        ∧ ((lostScan (scanned turnConfirmed)).part.line 0).slicer.debounced = .closed)
      ∧ framed (lostScan (scanned turnSettle)) := by
  (repeat' apply And.intro) <;> decide +kernel

/-- Line 0 alone enabled, in `st`, with the levels and the FAULT review count given, at a review. -/
def reviewed (st : LineState) (lc lo n : Nat) (cls : LineClass) : State :=
  rig (fun p => (p.updLine 0 (fun x =>
    { x with state := st, slicer := { x.slicer with lc := lc, lo := lo, faultReviews := n, cls := cls } })).setTimeBase
      (fun t => { t with reviewDue := true }))

/-- What the statement about reviews asks of the state. -/
abbrev reviewable (s : State) : Prop :=
  s.ready ∧ s.part.timeBase.reviewDue = true ∧ (∀ m : LineId, m ≠ 0 → (s.part.line m).state = .disabled)
    ∧ (s.part.line 0).state ≠ .disabled

theorem witness_ClassReviewSetsClasses :
    reviewable (reviewed .idle 640 65 3 .clean) ∧ reviewable (reviewed .quarantine 95 0 8 .weak)
      ∧ reviewable (reviewed .active 195 100 7 .fault) ∧ reviewable (reviewed .active 195 100 6 .damp)
      ∧ (reviewed .idle 640 65 3 .clean).part.scan.state = .running
      ∧ reviewable (lostScan (reviewed .idle 640 65 3 .clean)) := by decide +kernel

/-- What the statements about a confirmation ask of line 0. -/
abbrev confirmable (s : State) (st : LineState) (polarity : Loop) : Prop :=
  s.hold.held = false ∧ (s.part.line 0).decoder.tests = .confirmation ∧ (s.part.line 0).state = st
    ∧ (s.part.line 0).decoder.run.confirmed = false
    ∧ (s.part.line 0).slicer.debounced = (s.part.line 0).decoder.run.polarity
    ∧ (s.part.line 0).slicer.cls.bmin ≤ (s.part.line 0).decoder.run.duration
    ∧ (s.part.line 0).decoder.ended.map Run.polarity = some polarity

/-- An open run of `b` ms that a closed run of 20 ms confirms. -/
def broke (st : LineState) (b : Nat) : State :=
  withLine (testing st .closed ⟨.closed, 0, 20, false⟩ (some ⟨.open, 0, b, true⟩) .confirmation)

/-- A closed run of 19 ms after a break: too short to confirm in CLEAN. -/
def tooShort : State :=
  withLine (testing .active .closed ⟨.closed, 0, 19, false⟩ (some ⟨.open, 0, 60, true⟩) .confirmation)

theorem witness_ConfirmationSettlesAnOpenRunInActive :
    (tooShort.hold.held = false ∧ (tooShort.part.line 0).decoder.tests = .confirmation
        ∧ (tooShort.part.line 0).slicer.cls = .clean ∧ (tooShort.part.line 0).decoder.run.duration < 20)
      ∧ confirmable (broke .active 100) .active .open ∧ confirmable (broke .active 101) .active .open
      ∧ confirmable (broke .active 199) .active .open ∧ confirmable (broke .active 200) .active .open
      ∧ ((broke .active 100).part.line 0).decoder.pEst / 16 = 100
      ∧ ((broke .active 100).part.profileOfLine 0).flashMin = 200 := by decide +kernel

theorem witness_ConfirmationInConverseReportsFlashesAlone :
    confirmable (broke .converse 100) .converse .open ∧ confirmable (broke .converse 200) .converse .open := by
  decide +kernel

/-- A closed run of `m` ms that an open run of 20 ms confirms, with a pending break of 60 ms. -/
def made (st : LineState) (g : Option Digit) (m : Nat) : State :=
  withLine (fun x => (testing st .open ⟨.open, 0, 20, false⟩ (some ⟨.closed, 0, m, true⟩) .confirmation x).withDecoder
    (fun d => { d with digit := g, pendingBreak := some 60 }))

theorem witness_ConfirmationPairsAMake :
    (confirmable (made .active (some ⟨1, false, 0, 0, 200, 600, 0⟩) 100) .active .closed
        ∧ ((made .active (some ⟨1, false, 0, 0, 200, 600, 0⟩) 100).part.line 0).decoder.pendingBreak = some 60)
      ∧ (confirmable (made .active none 40) .active .closed ∧ ((made .active none 40).part.line 0).decoder.digit = none)
      ∧ confirmable (made .converse none 40) .converse .closed := by decide +kernel

/-- A digit that has come to its gap, with `n` cells queued and `free` cells free. -/
def gapped (g : Digit) (n free : Nat) : State :=
  rig (fun p => { p.updLine 0 (fun x =>
    { (testing .active .closed ⟨.closed, 0, 200, true⟩ none .limit x).withDecoder (fun d => { d with digit := some g }) with
      queue := List.replicate n cellFive }) with free := free })

/-- What the statement about the gap asks of line 0. -/
abbrev gapReached (s : State) (g : Digit) : Prop :=
  s.hold.held = false ∧ (s.part.line 0).decoder.tests = .limit ∧ (s.part.line 0).state = .active
    ∧ (s.part.line 0).decoder.digit = some g ∧ (s.part.line 0).slicer.debounced = .closed
    ∧ (s.part.line 0).decoder.run.polarity = .closed
    ∧ (s.part.line 0).decoder.pEst / 8 ≤ (s.part.line 0).decoder.run.duration

/-- A digit of `n` pulses. -/
def pulses (n : Nat) (mutilated : Bool) : Digit := ⟨n, mutilated, 200, 2, 200, 600, 0⟩

/-- The state whose convention 0 maps nothing. -/
def unmapping (s : State) : State := s.withPart (s.part.setConvention 0 (Vector.replicate 10 none))

/-- A closed run 1 ms short of the gap, and an open run, of a line with a digit in progress. -/
def beforeGap (db : Loop) : State :=
  withLine (fun x => (testing .active db ⟨db, 0, 199, true⟩ none .limit x).withDecoder
    (fun d => { d with digit := some (pulses 1 false) }))

theorem witness_GapEndsTheDigit :
    ((beforeGap .closed).hold.held = false ∧ ((beforeGap .closed).part.line 0).decoder.tests = .limit
        ∧ ((beforeGap .closed).part.line 0).slicer.debounced = .closed
        ∧ ((beforeGap .closed).part.line 0).decoder.run.duration < ((beforeGap .closed).part.line 0).decoder.pEst / 8
        ∧ ((beforeGap .open).part.line 0).decoder.tests = .limit ∧ ((beforeGap .open).part.line 0).slicer.debounced = .open)
      ∧ gapReached (gapped (pulses 3 true) 0 256) (pulses 3 true) ∧ gapReached (gapped (pulses 11 false) 0 256) (pulses 11 false)
      ∧ (gapReached (unmapping (gapped (pulses 10 false) 0 256)) (pulses 10 false)
        ∧ ((unmapping (gapped (pulses 10 false) 0 256)).part.convention 0).get 9 = none)
      ∧ (gapReached (gapped (pulses 10 false) 31 1) (pulses 10 false)
        ∧ ((gapped (pulses 10 false) 31 1).part.convention 0).get 9 = some 0
        ∧ 31 < (gapped (pulses 10 false) 31 1).part.globals.lineCap)
      ∧ (gapReached (gapped (pulses 1 false) 32 1) (pulses 1 false)
        ∧ (gapped (pulses 1 false) 32 1).part.globals.lineCap ≤ ((gapped (pulses 1 false) 32 1).part.line 0).queue.length)
      ∧ (gapReached (gapped (pulses 1 false) 0 0) (pulses 1 false) ∧ (gapped (pulses 1 false) 0 0).part.free = 0) := by
  decide +kernel

/-- A line that has been open for clear_time, its open run begun at 1999. -/
def clearing (st : LineState) (start : LineTime) (index flaps : Nat) : State :=
  withLine (fun x => { testing st .open ⟨.open, 1999, 600, true⟩ none .limit x with
    callStart := some start, digitIndex := index, flaps := flaps })

/-- What the statement about the clear asks of line 0. -/
abbrev clearReached (s : State) : Prop :=
  s.hold.held = false ∧ (s.part.line 0).decoder.tests = .limit ∧ (s.part.line 0).slicer.debounced = .open
    ∧ (s.part.line 0).decoder.run.polarity = .open
    ∧ ((s.part.line 0).state = .active ∨ (s.part.line 0).state = .converse ∨ (s.part.line 0).state = .parked)
    ∧ (s.part.line 0).decoder.digit = none
    ∧ (s.part.profileOfLine 0).clearTime ≤ (s.part.line 0).decoder.run.duration

theorem witness_ClearReturnsTheLineToIdle :
    clearReached (clearing .parked 1000 0 0) ∧ clearReached (clearing .active 1000 1 0)
      ∧ (clearReached (clearing .active 999 0 0) ∧ 1000 ≤ ((1999 : LineTime) - 999).toNat)
      ∧ (clearReached (clearing .active 1000 0 3) ∧ ((1999 : LineTime) - 1000).toNat < 1000
        ∧ min 15 (3 + 1) < ((clearing .active 1000 0 3).part.profileOfLine 0).flapLimit)
      ∧ clearReached (clearing .active 1000 0 4) := by decide +kernel

theorem witness_ClearReturnsTheLineToIdle_boundaries :
    (clearReached (clearing .active 1999 0 0) ∧ ((1999 : LineTime) - 1999).toNat < 1000)
      ∧ (clearReached (clearing .active 2000 0 0) ∧ 1000 ≤ ((1999 : LineTime) - 2000).toNat)
      ∧ ((beforeGap .open).hold.held = false ∧ ((beforeGap .open).part.line 0).decoder.run.duration < 600)
      ∧ ((beforeGap .closed).part.line 0).slicer.debounced = .closed := by decide +kernel

theorem witness_RelearnSeedsFromTheProfile :
    ready (inState .quarantine) ∧ ((inState .quarantine).part.line 0).state ≠ .disabled := by decide +kernel

/-- Both trace slots taken, the first by line 5 and the second by `l`. -/
def traced (l : LineId) : State :=
  rig (fun p => (((p.updLine 0 idle).setTraceSlot 0 (some 5)).setTraceSlot 1 (some l)).updLine l
    (fun x => { x with trace := some 1 }))

/-- The first trace slot taken by line 5. -/
def oneTraced : State := rig (fun p => (p.updLine 0 idle).setTraceSlot 0 (some 5))

theorem witness_TraceCommandsTakeAndFreeSlots :
    (ready (traced 0) ∧ ((traced 0).part.line 0).trace = some 1 ∧ ((traced 0).part.line 0).state ≠ .disabled)
      ∧ (ready oneTraced ∧ (oneTraced.part.line 0).trace = none ∧ oneTraced.part.traceSlot 1 = none
        ∧ ∀ j : SlotId, j < 1 → oneTraced.part.traceSlot j ≠ none)
      ∧ ((traced 6).part.line 0).trace = none ∧ ∀ i : SlotId, (traced 6).part.traceSlot i ≠ none := by decide +kernel

/-- Line 0 in `st` with a timer that has reached 0. -/
def expiring (st : LineState) (k : TimerKind) : State := withLine (fun x => { open0 x with state := st, timer := some ⟨k, 0⟩ })

theorem witness_SupervisionTimersExpire :
    (expiring .idle .rest).ready ∧ (expiring .seizing .seize).ready ∧ (expiring .active .firstDigit).ready
      ∧ (expiring .active .partialDial).ready ∧ (expiring .quarantine .settle).ready
      ∧ ((expiring .quarantine .settle).part.line 0).timer = some ⟨.settle, 0⟩ := by decide +kernel

theorem witness_EnableStartsTheLineInIdle :
    ready State.reset ∧ (State.reset.part.line 47).state = .disabled := by decide +kernel

theorem witness_DisableFreesTraceAndLeaves :
    ready (traced 0) ∧ ((traced 0).part.line 0).state ≠ .disabled ∧ ((traced 0).part.line 0).trace = some 1
      ∧ ((inState .parked).part.line 0).trace = none := by decide +kernel

/-- Line 0 ACTIVE, its gate OPEN, a cell queued, and the line in the grant queue. -/
def granted : State := rig (fun p => { p.updLine 0 (fun x => { open0 x with queue := [cellFive] }) with
  free := 255, grantQueue := [0] })

theorem witness_GateCommandsStoreTheirValue :
    (ready granted ∧ (granted.part.line 0).gate = .open ∧ (granted.part.line 0).state = .active)
      ∧ ready (inState .active) ∧ ((inState .active).part.line 0).gate = .shut
      ∧ ready (inState .converse) ∧ ((inState .converse).part.line 0).state = .converse := by decide +kernel

/-- The part of a burst, as a state. -/
def burst (st : SenderState) (elapsed : Nat) (head : Bool) : State := State.reset.withPart (playing st elapsed head)

theorem witness_ConverseAndParkTakeTheLeavingSteps :
    ready (burst .toneOn 320 true) ∧ ((burst .toneOn 320 true).part.line 0).state = .active
      ∧ ready (inState .converse) := by decide +kernel

/-- Line 0 in `st` with its loop CLOSED. -/
def looped (st : LineState) : State := withLine (fun x => { x with state := st, slicer := { x.slicer with debounced := .closed } })

theorem witness_ResumeAndRestoreReturnTheLine :
    ready (inState .converse) ∧ ready (inState .parked) ∧ ((inState .parked).part.line 0).slicer.debounced = .open
      ∧ ready (looped .quarantine) ∧ ((looped .quarantine).part.line 0).slicer.debounced = .closed := by decide +kernel

theorem witness_QueryLineAnswersTheRecord : ready granted := by decide +kernel

theorem witness_CommandsAreRejectedByIndexAndState :
    ready State.reset ∧ 48 ≤ (48 : Byte).toNat ∧ 8 ≤ (8 : Byte).toNat ∧ 4 ≤ (4 : Byte).toNat
      ∧ (47 : Byte).toNat = (47 : LineId).val ∧ (State.reset.part.line 47).state ∉ [LineState.active] := by decide +kernel

/-- Line 0 ACTIVE with `n` cells queued and `free` cells free. -/
def stocked (n free : Nat) : State :=
  rig (fun p => { p.updLine 0 (fun x => { open0 x with queue := List.replicate n cellFive, digitIndex := 254 }) with
    free := free })

theorem witness_InjectEnqueuesAllItsSymbols :
    ready (stocked 16 16) ∧ ((stocked 16 16).part.line 0).state = .active
      ∧ 16 + ((stocked 16 16).part.line 0).queue.length ≤ (stocked 16 16).part.globals.lineCap
      ∧ 16 ≤ (stocked 16 16).part.free := by decide +kernel

theorem witness_InjectIsRefusedWhole :
    ready (stocked 31 256) ∧ ((stocked 31 256).part.line 0).state = .active
      ∧ (stocked 31 256).part.globals.lineCap < 2 + ((stocked 31 256).part.line 0).queue.length
      ∧ ready (stocked 0 1) ∧ (stocked 0 1).part.free < 2 := by decide +kernel

theorem witness_WithdrawFlushesTheQueue :
    ready (burst .toneOn 319 true) ∧ ((burst .toneOn 319 true).part.line 0).state = .active := by decide +kernel

/-- What the statement about bursts asks of sender 0 and line 0. -/
abbrev bursting (s : State) (st : SenderState) : Prop :=
  s.ready ∧ (s.part.sender 0).state = st ∧ (s.part.sender 0).captured = some ⟨70, 70, 40, 4000, 5000⟩
    ∧ (s.part.sender 0).line = some 0 ∧ 8 * 70 ≤ (s.part.sender 0).elapsed ∧ (s.part.line 0).queue.length = 2

/-- The run count of line 0 at run_limit, with another line waiting. -/
def spent : State := (burst .toneOff 560 false).withPart
  { (burst .toneOff 560 false).part.updLine 0 (fun x => { x with runCount := 4 }) with grantQueue := [5] }

theorem witness_BurstPhasesEnd :
    bursting (burst .toneOn 560 true) .toneOn ∧ bursting (burst .toneOff 560 false) .toneOff ∧ bursting spent .toneOff
      ∧ ((burst .toneOff 560 false).part.line 0).runCount < (burst .toneOff 560 false).part.globals.runLimit
      ∧ ¬ (spent.part.line 0).runCount < spent.part.globals.runLimit := by decide +kernel

theorem witness_AbortCommitsFromTheCommitPoint :
    ((playing .toneOn 320 true).line 0).sender = some 0 ∧ ((playing .toneOn 320 true).line 0).queue.length = 2
      ∧ ((playing .toneOn 320 true).sender 0).state = .toneOn ∧ 8 * 40 ≤ ((playing .toneOn 320 true).sender 0).elapsed
      ∧ ((playing .toneOn 319 true).sender 0).elapsed < 8 * 40
      ∧ ((playing .toneOff 1 false).sender 0).state = .toneOff := by decide +kernel

/-- Line 5 at the head of the grant queue of a LOCKED part whose sender 0 plays. -/
def queued : Part :=
  { (playing .toneOn 10 true).updLine 5 (fun x => { open0 x with queue := [cellFive] }) with
    free := 253, grantQueue := [5] }

theorem witness_GrantsGoToTheLowestFreeSender :
    queued.timeBase.state = .locked ∧ queued.grantQueue = [5] ∧ (queued.sender 1).state = .free
      ∧ (∀ j : SenderId, j < 1 → (queued.sender j).state ≠ .free) ∧ (queued.line 5).queue = [cellFive]
      ∧ State.reset.part.timeBase.state ≠ .locked ∧ State.reset.part.grantQueue = []
      ∧ ((stocked 1 255).part.eligible 0 = true ∧ queued.eligible 5 = false) := by decide +kernel

theorem witness_SendersPlayAFrame :
    Sender.freed.state = .free ∧ ((playing .toneOff 3 false).sender 0).state = .toneOff
      ∧ ((playing .toneOn 3 true).sender 0).state = .toneOn ∧ ((playing .toneOn 3 true).sender 0).symbol = some 5
      ∧ ((playing .toneOn 3 true).sender 0).captured = some ⟨70, 70, 40, 4000, 5000⟩
      ∧ ((playing .toneOn 3 true).sender 0).phases = some (0, 0) := by decide +kernel

/-- A LOCKED state whose divider stands at `n`. -/
def divided (n : Nat) : State := (burst .toneOn 3 true).withPart
  ((burst .toneOn 3 true).part.setTimeBase (fun t => { t with divider := n }))

theorem witness_OutgoingSlotsFollowThePathModes :
    (divided 7).ready ∧ (divided 7).part.phasesCurrent ∧ (List.replicate 64 (9 : Half)).length = 64
      ∧ (divided 7).part.current := by decide +kernel

theorem witness_SetProfileMovesOneLine :
    ready (inState .seizing) ∧ ((inState .seizing).part.line 0).profile = 0 ∧ ((inState .seizing).part.line 0).profile ≠ 7
      ∧ ((inState .seizing).part.line 0).state ≠ .disabled := by decide +kernel

/-- Ten written entry codes, one of them unknown and one NONE. -/
def writtenEntries : Vector Byte 10 := #v[1, 2, 16, 255, 5, 6, 7, 8, 9, 15]

/-- The record stored for them. -/
def keptEntries : Convention :=
  #v[some 1, some 2, none, none, some 5, some 6, some 7, some 8, some 9, some 15]

theorem witness_SettingsAreWrittenAndRead :
    ready State.reset
      ∧ (∀ n, n < 16 → (0x2010 : Half).getLsbD n = (profileChanges writtenProfile).getD n false)
      ∧ (∀ n : Fin 10, keptEntries.get n
        = if h : (writtenEntries.get n).toNat < 16 then some ⟨(writtenEntries.get n).toNat, h⟩ else none)
      ∧ (∀ n : Fin 16, (0x0004 : Half).getLsbD n.val
        = if h : n.val < 10 then decide (16 ≤ (writtenEntries.get ⟨n.val, h⟩).toNat ∧ writtenEntries.get ⟨n.val, h⟩ ≠ 0xFF)
          else false)
      ∧ (∀ n, n < 16 → (0x0007 : Half).getLsbD n = [decide (1750 ≠ 1999), decide (1 ≠ 0), decide (32 ≠ 40)].getD n false)
      ∧ (1750 : Nat) = max 250 (min 8000 1999) / 250 * 250
      ∧ ((1 : Byte) = 1 ∧ 8 ≤ (8 : Byte).toNat) ∧ ((2 : Byte) = 2 ∧ 4 ≤ (4 : Byte).toNat)
      ∧ ((4 : Byte) ≠ 1 ∧ (4 : Byte) ≠ 2 ∧ (4 : Byte) ≠ 3) := by decide +kernel

/-- Link A in COLLECT with `chars` taken. -/
def collecting (chars : List Byte) (n : Nat) : State := withLink (fun k => { k with assembler := .collect 0x02 chars n })

theorem witness_CharactersMoveTheAssembler :
    (State.reset.ready ∧ (State.reset.part.link .a).receiver = .listening ∧ (State.reset.part.link .a).assembler = .wait)
      ∧ ((∀ i : Fin 8, (41 : Byte).getLsbD i.val = decide (lengthFortyOne.get ⟨i.val + 1, by omega⟩ = .marking))
        ∧ lengthFortyOne.get 0 = .spacing ∧ lengthFortyOne.get 9 = .spacing)
      ∧ ((lengthFortyOne.set 0 .marking).get 0 = .marking ∧ (lengthFortyOne.set 9 .marking).get 9 = .marking)
      ∧ lengthFortyOne.get 1 = .marking ∧ (∀ i, (Vector.replicate 10 WireLevel.spacing).get i = .spacing)
      ∧ ((collecting [] 3).ready ∧ 40 < (41 : Byte).toNat ∧ (40 : Byte).toNat ≤ 40)
      ∧ ((collecting [2, 22] 0).ready ∧ [(2 : Byte), 22].length ≠ 2 + 1)
      ∧ ((collecting [2, 22, 0] 0).ready ∧ [(2 : Byte), 22, 0].length = 2 + 1) := by decide +kernel

theorem witness_MessagesAreJudgedInOrder :
    (2 + 2 + [(22 : Byte), 0].foldl (fun n b => n + b.toNat) 0 + 230) % 256 = 0
      ∧ (2 + 2 + [(22 : Byte), 0].foldl (fun n b => n + b.toNat) 0 + 229) % 256 ≠ 0
      ∧ 20 < (21 : Byte).toNat ∧ commandLength 0x14 = some (2, 2) ∧ [(1 : Byte)].length < 2
      ∧ commandLength 0x0C = some (1, 40) := by decide +kernel

theorem witness_CharactersSpellTheirCommand :
    State.reset.ready ∧ (Instr.inject .a 0 (List.replicate 39 1)).wellFormed = true
      ∧ commandMessage (.inject .a 0 (List.replicate 39 1)) = some (.a, 0x0C, List.replicate 1 0 ++ List.replicate 39 1)
      ∧ (State.reset.part.link .a).receiver = .listening ∧ (State.reset.part.link .a).assembler = .wait := by
  decide +kernel

/-- Link A in `st` with a receive error waiting. -/
def failing (st : LinkState) : State :=
  withLink (fun k => { k with state := st, waiting := some (.error ⟨.check, 3, some 1, 0⟩) })

/-- Link A in `st` in COLLECT, its gap timer at its 11th tick. -/
def gapping (st : LinkState) (chars : List Byte) : State :=
  withLink (fun k => { k with state := st, assembler := .collect 0x02 chars 11 })

theorem witness_ReceiveErrorsAreJudgedByLinkState :
    ((failing .suspect).hold.held = false ∧ (∀ l : LineId, ((failing .suspect).part.line l).decoder.tests = .made)
        ∧ (failing .suspect).part.timeBase.lockingDue = false
        ∧ ((failing .suspect).part.link (LinkId.a).other).waiting = none)
      ∧ ((gapping .alive [2, 22]).ready ∧ ((gapping .alive [2, 22]).part.link .a).receiver = .listening) ∧ (gapping .suspect [0]).ready ∧ (gapping .failed []).ready := by decide +kernel

/-- Link A in `st` and in COLLECT, `n` ticks into a break. -/
def breaking (st : LinkState) (n : Nat) : State :=
  withLink (fun k => { k with state := st, assembler := .collect 0x02 [2, 22] 0, receiver := .breaking n })

theorem witness_BreaksEndMessagesAndRestartLinks :
    (breaking .alive 19).ready ∧ (breaking .suspect 19).ready ∧ (breaking .failed 0).ready ∧ (breaking .failed 20).ready
      ∧ (withLink (fun k => { k with receiver := .breaking 19 })).ready
      ∧ (withLink (fun k => { k with receiver := .deaf })).ready := by decide +kernel

/-- Link A in `st` with its audit timer at `t`. -/
def audited (st : LinkState) (t : Option Nat) : State := withLink (fun k => { k with state := st, auditTimer := t })

theorem witness_AuditsAndTheirTimer :
    (audited .alive (some 0)).ready ∧ (audited .suspect (some 0)).ready ∧ (audited .failed none).ready
      ∧ ((audited .suspect (some 0)).part.link .a).challenge = 0 ∧ (1 : Half) ≠ 0 := by decide +kernel

theorem witness_FailedLinksCommandsAreIgnored :
    (audited .failed none).ready ∧ commandMessage (.enable .a 0 0) = some (.a, 0x02, [0, 0])
      ∧ (0x02 : Byte) ≠ 0x01 ∧ ((audited .failed none).part.link .a).state = .failed := by decide +kernel

/-- Link A with `n` reports queued and `m` lost. -/
def full (n m : Nat) : State := withLink (fun k => { k with queue := List.replicate n ⟨0, .scan .running⟩, lost := m })

/-- Line 0 in CONVERSE, holding a trace slot. -/
def tracedConverse : State := withLine (fun x => { x with state := .converse, trace := some 0 })

theorem witness_ReportQueuesHold128 :
    ((tracedConverse.part.line 0).trace ≠ none ∧ (tracedConverse.part.line 0).state = .converse
        ∧ ((inState .converse).part.line 0).trace = none) ∧
    ((full 127 0).part.link .a).state ≠ .failed ∧ ((full 127 0).part.link .a).queue.length < 128
      ∧ 128 ≤ ((full 128 65535).part.link .a).queue.length ∧ ((audited .failed none).part.link .a).state = .failed := by
  decide +kernel

/-- The state whose link A transmits. -/
def sending (s : State) : State := s.withPart (s.part.updLink .a (fun k => { k with sending := some [] }))

theorem witness_TransmissionsTakeTheHead :
    ((full 1 0).ready ∧ ((full 1 0).part.link .a).sending = none)
      ∧ ((full 0 0).part.link .a).queue = [] ∧ ((sending (full 0 0)).part.link .a).sending ≠ none
      ∧ ((sending (full 128 5)).ready ∧ 128 ≤ ((sending (full 128 5)).part.link .a).queue.length)
      ∧ ((sending (full 127 5)).ready ∧ 0 < ((sending (full 127 5)).part.link .a).lost
        ∧ ((sending (full 127 5)).part.link .a).queue.length < 128) := by decide +kernel

theorem witness_OscillatorMarkGivesATick :
    State.reset.ready ∧ State.reset.part.current ∧ State.reset.part.timeBase.state ≠ .locked
      ∧ State.reset.part.timeBase.watchdog = some 0 ∧ State.reset.part.scan.period = none := by decide +kernel

theorem witness_FramesInLockedCountToTheTick :
    ((divided 6).ready ∧ (divided 6).part.phasesCurrent ∧ (divided 6).part.timeBase.divider < 7)
      ∧ (divided 7).ready ∧ (divided 7).part.phasesCurrent ∧ (divided 7).part.current
      ∧ (divided 7).part.timeBase.state = .locked ∧ (divided 7).part.scan.period = none := by decide +kernel

/-- A LOCKING state with a run of `n` frames. -/
def running (n : Nat) : State := granted.withPart (granted.part.setTimeBase (fun t => { t with runCount := n }))

theorem witness_FramesOutsideLockedCountToLocked :
    ((running 126).ready ∧ (running 126).part.phasesCurrent ∧ (running 126).part.timeBase.runCount < 127)
      ∧ (running 127).ready ∧ (running 127).part.phasesCurrent ∧ (running 127).part.timeBase.state ≠ .locked := by
  decide +kernel

/-- A LOCKED state whose watchdog has counted `n` marks. -/
def watched (n : Nat) : State := (divided 3).withPart ((divided 3).part.setTimeBase (fun t => { t with watchdog := some n }))

theorem witness_FrameAndLockingTimeouts :
    ((withTime (fun t => { t with watchdog := some 1 })).ready
        ∧ (withTime (fun t => { t with watchdog := some 1 })).part.timeBase.watchdog = some (0 + 1)
        ∧ (withTime (fun t => { t with watchdog := some 1 })).part.timeBase.state ≠ .locked)
      ∧ ((watched 1).ready ∧ exec (.highwayFrame (List.replicate 64 0)) (watched 1)
          = .next (after (.highwayFrame (List.replicate 64 0)) (watched 1))
        ∧ (watched 1).part.phasesCurrent ∧ (watched 1).part.timeBase.state = .locked ∧ (watched 1).part.timeBase.divider < 7)
      ∧ ((watched 0).ready ∧ (watched 0).part.timeBase.watchdog = some 0)
      ∧ ((watched 1).ready ∧ (watched 1).part.timeBase.watchdog = some (0 + 1)
        ∧ exec .frameWatchdogExpiry (watched 1) = .next (after .frameWatchdogExpiry (watched 1)))
      ∧ ((withTime (fun t => { t with lockingDue := true })).hold.held = false
        ∧ (∀ l : LineId, ((withTime (fun t => { t with lockingDue := true })).part.line l).decoder.tests = .made)
        ∧ (withTime (fun t => { t with lockingDue := true })).part.timeBase.lockingDue = true) :=
  ⟨by decide +kernel, ⟨by decide +kernel, rfl, by decide +kernel⟩, by decide +kernel, ⟨by decide +kernel, by decide +kernel, rfl⟩, by decide +kernel⟩

theorem witness_LossOfFramesAbortsEverySender :
    (watched 1).ready ∧ (watched 1).part.phasesCurrent ∧ (watched 1).part.current ∧ (watched 1).part.supervisionKept
      ∧ (watched 1).part.timeBase.state = .locked ∧ (watched 1).part.timeBase.watchdog = some (0 + 1)
      ∧ (watched 1).part.scan.period = none ∧ (watched 1).part.takes .a := by decide +kernel

theorem witness_senders_kept : (watched 1).part.sendersKept := by decide +kernel

/-- The steps that the invariants speak of: a working state that meets them all, and a step from it. -/
theorem witness_KeptByEveryStep :
    (divided 3).hold.held = false ∧ (divided 3).part.levelsKept ∧ (divided 3).part.periodsKept
      ∧ (divided 3).part.settingsKept ∧ (divided 3).part.poolKept ∧ (divided 3).part.linksKept
      ∧ (divided 3).part.supervisionKept := by
  (repeat' apply And.intro) <;> decide +kernel

theorem witness_step_answers_next :
    step { divided 3 with pending := [.withdraw .a 0] } = .next (after (.withdraw .a 0) (divided 3)) := rfl

end Sys2Proof.Tests
end

section
/-!
SUPPORT. What every row keeps, once: a predicate of the part that the operations of the rows keep is kept by every step.
-/
namespace Sys2Proof.Machine

/-! ### What comes before a command's block keeps what the block keeps -/

theorem Part.onLink_keeps (I : Part → Prop) {p : Part} (lk : LinkId) {f : Part → Part} (hf : ∀ p, I p → I (f p))
    (h : I p) : I (p.onLink lk f) := by
  unfold Part.onLink
  split
  · exact h
  · exact hf p h
  · exact hf p h

theorem Part.lineCommand_keeps (I : Part → Prop) {p : Part} (lk : LinkId) (kind line : Byte) {f : LineId → Part → Part}
    (hr : ∀ p : Part, I p → I (p.reject lk .range kind line)) (hf : ∀ l p, I p → I (f l p)) (h : I p) :
    I (p.lineCommand lk kind line f) := by
  refine Part.onLink_keeps I lk (fun p hp => ?_) h
  split
  · exact hr p hp
  · exact hf _ p hp

theorem Part.lineProfileCommand_keeps (I : Part → Prop) {p : Part} (lk : LinkId) (kind line profile : Byte)
    {f : LineId → ProfileId → Part → Part} (hr : ∀ p : Part, I p → I (p.reject lk .range kind line))
    (hf : ∀ l i p, I p → I (f l i p)) (h : I p) : I (p.lineProfileCommand lk kind line profile f) := by
  refine Part.onLink_keeps I lk (fun p hp => ?_) h
  split
  · exact hf _ _ p hp
  · exact hr p hp

theorem Part.inStates_keeps (I : Part → Prop) {p : Part} (lk : LinkId) (kind line : Byte) (l : LineId)
    (states : List LineState) {f : Part → Part} (hr : I (p.reject lk .state kind line)) (hf : I (f p)) :
    I (p.inStates lk kind line l states f) := by
  unfold Part.inStates
  split
  · exact hf
  · exact hr


/-! ### What every row keeps -/

/-- A plane's command is taken by its name, after what may not wait (R161). -/
theorem exec_command (c : Instr) (lk : LinkId) (kind : Byte) (body : List Byte) (s : State)
    (h : commandMessage c = some (lk, kind, body)) :
    exec c s = .next (s.onPart (fun p => (p.arrive lk c).takeCommand c)) := by
  cases c <;> cases h <;> rfl

/-- The operations that the rows are made of keep a predicate of the part. -/
structure Part.KeptByRows (I : Part → Prop) : Prop where
  confirmationStage : ∀ l p, I p → I (p.confirmationStage l)
  gapStage : ∀ l p, I p → I (p.gapStage l)
  clearStage : ∀ l p, I p → I (p.clearStage l)
  lockingTimeout : ∀ p, I p → I p.lockingTimeout
  dropWaiting : ∀ lk p, I p → I (p.dropWaiting lk)
  receiveError : ∀ lk e p, I p → I (p.receiveError lk e)
  takeCommand : ∀ c p, I p → I (p.takeCommand c)
  takeScanBytes : ∀ bs p, I p → I (p.takeScanBytes bs)
  classReview : ∀ p, I p → I p.classReview
  restExpiry : ∀ l p, I p → I (p.restExpiry l)
  seizeExpiry : ∀ l p, I p → I (p.seizeExpiry l)
  firstDigitExpiry : ∀ l p, I p → I (p.firstDigitExpiry l)
  partialExpiry : ∀ l p, I p → I (p.partialExpiry l)
  settleExpiry : ∀ l p, I p → I (p.settleExpiry l)
  longBreak : ∀ lk p, I p → I (p.longBreak lk)
  shortBreak : ∀ lk p, I p → I (p.shortBreak lk)
  returnToMarking : ∀ lk p, I p → I (p.returnToMarking lk)
  gapTimerExpiry : ∀ lk p, I p → I (p.gapTimerExpiry lk)
  auditExpiry : ∀ lk p, I p → I (p.auditExpiry lk)
  startSending : ∀ lk ready p, I p → I (p.updLink lk (fun k => k.startSending ready))
  finishTransmission : ∀ lk p, I p → I (p.finishTransmission lk)
  takeCharacter : ∀ lk v stop n p, I p → I (p.updLink lk (fun k => k.takeCharacter lk v stop n))
  onPhaseEnd : ∀ k p, I p → I (p.onPhaseEnd k)
  toneOffEnd : ∀ k p, I p → I (p.toneOffEnd k)
  watchdogExpiry : ∀ p, I p → I p.watchdogExpiry
  setWatchdog : ∀ n p, I p → I (p.setTimeBase (fun t => { t with watchdog := some n }))
  tickCore : ∀ p, I p → I p.tickCore
  takeFrame : ∀ p, I p → I p.takeFrame
  atReset : ∀ cause a b, I (Part.atReset cause a b)

section
variable {I : Part → Prop} (K : Part.KeptByRows I)
include K

theorem Part.KeptByRows.settleSamples (p : Part) (h : I p) : I p.settleSamples :=
  Part.forLines_keeps I _ (fun l q hq => K.clearStage l _ (K.gapStage l _ (K.confirmationStage l q hq))) p h

theorem Part.KeptByRows.takeWaiting (lk : LinkId) (p : Part) (h : I p) : I (p.takeWaiting lk) := by
  unfold Part.takeWaiting
  split
  · exact h
  · exact K.receiveError lk _ _ (K.dropWaiting lk p h)
  · exact K.takeCommand _ _ (K.dropWaiting lk p h)

theorem Part.KeptByRows.takeWaitingError (lk : LinkId) (p : Part) (h : I p) : I (p.takeWaitingError lk) := by
  unfold Part.takeWaitingError
  split
  · exact K.receiveError lk _ _ (K.dropWaiting lk p h)
  · exact h
  · exact h

theorem Part.KeptByRows.settleUrgent (p : Part) (h : I p) : I p.settleUrgent :=
  K.takeWaiting .b _ (K.takeWaiting .a _ (K.lockingTimeout _ (K.settleSamples p h)))

theorem Part.KeptByRows.arrive (lk : LinkId) (c : Instr) (p : Part) (h : I p) : I (p.arrive lk c) := by
  have hq := K.takeWaiting lk.other _ (K.lockingTimeout _ (K.settleSamples p h))
  unfold Part.arrive
  dsimp only
  split
  · exact K.dropWaiting lk _ hq
  · exact K.takeWaiting lk _ hq

theorem Part.KeptByRows.expireLine (l : LineId) (p : Part) (h : I p) : I (p.expireLine l) :=
  K.settleExpiry l _ (K.partialExpiry l _ (K.firstDigitExpiry l _ (K.seizeExpiry l _ (K.restExpiry l p h))))

theorem Part.KeptByRows.expireLink (lk : LinkId) (p : Part) (h : I p) : I (p.expireLink lk) :=
  K.auditExpiry lk _ (K.gapTimerExpiry lk _ (K.longBreak lk p h))

theorem Part.KeptByRows.settleExpiries (p : Part) (h : I p) : I p.settleExpiries :=
  K.expireLink .b _ (K.expireLink .a _ (Part.forLines_keeps I _ (fun l q => K.expireLine l q) _ (K.classReview p h)))

theorem Part.KeptByRows.settlePhases (p : Part) (h : I p) : I p.settlePhases :=
  Part.forSenders_keeps I _ (fun k q hq => K.toneOffEnd k _ (K.onPhaseEnd k q hq)) p h

theorem Part.KeptByRows.beforeFrame (p : Part) (h : I p) : I p.beforeFrame := by
  have hq := K.settlePhases _ (K.settleUrgent p h)
  unfold Part.beforeFrame
  dsimp only
  split
  · exact K.settleExpiries _ hq
  · exact hq

theorem Part.KeptByRows.oscillatorMark (p : Part) (h : I p) : I p.oscillatorMark := by
  have hm : I p.markWatchdog := by
    unfold Part.markWatchdog
    split
    · exact h
    · exact K.setWatchdog 1 p h
    · exact K.watchdogExpiry p h
  have hu := K.settleUrgent _ hm
  have ht := K.tickCore _ (K.settleExpiries _ hu)
  unfold Part.oscillatorMark
  dsimp only
  split
  · exact hu
  · exact ht
  · exact ht

end

/-- A row that acts on a working part keeps of a working part what its action keeps. -/
theorem State.onPart_working_keeps (I : Part → Prop) {s : State} {f : Part → Part} (hf : ∀ p, I p → I (f p))
    (h : s.working I) : (s.onPart f).working I := by
  rcases s.onPart_cases f with ⟨hh, e⟩ | ⟨hh, e⟩ <;> rw [e]
  · exact h
  · exact fun _ => hf _ (h hh)

/-- Of a state that is held in reset nothing is claimed. -/
theorem State.working_of_held (I : Part → Prop) (s : State) (h : s.hold.held = true) : s.working I :=
  fun k => absurd (h.symm.trans k) (by decide)

@[simp] theorem State.takeHighwayFrame_part (s : State) (slots : List Half) :
    (s.takeHighwayFrame slots).part = s.part.beforeFrame.takeFrame := by
  simp only [State.takeHighwayFrame]

/-- Every row keeps of a working part what the operations of the rows keep. -/
theorem exec_keeps {I : Part → Prop} (K : Part.KeptByRows I) (c : Instr) {s t : State} (hs : s.working I)
    (h : exec c s = .next t) : t.working I := by
  have row : ∀ f : Part → Part, (∀ p, I p → I (f p)) → (s.onPart f).working I :=
    fun f hf => State.onPart_working_keeps I hf hs
  have urgent : ∀ f : Part → Part, (∀ p, I p → I (f p)) → (s.onPart (fun p => f p.settleUrgent)).working I :=
    fun f hf => row _ (fun p hp => hf _ (K.settleUrgent p hp))
  rcases hm : commandMessage c with _ | ⟨lk, kind, body⟩
  case some =>
    rw [exec_command c lk kind body s hm] at h
    obtain rfl := Host.Outcome.next.inj h
    exact row _ (fun p hp => K.takeCommand c _ (K.arrive lk c p hp))
  cases c <;> first | (cases hm; done) | obtain rfl := Host.Outcome.next.inj h
  case oscillatorMillisecond => exact urgent Part.oscillatorMark K.oscillatorMark
  case scanFrame bytes => exact urgent (·.takeScanBytes bytes) (K.takeScanBytes bytes)
  case classReview => exact urgent Part.classReview K.classReview
  case runConfirmation l => exact row _ (K.confirmationStage l)
  case gap l => exact row _ (fun p hp => K.gapStage l _ (K.confirmationStage l p hp))
  case clear l => exact row _ (fun p hp => K.clearStage l _ (K.confirmationStage l p hp))
  case restExpiry l => exact urgent (·.restExpiry l) (K.restExpiry l)
  case seizeExpiry l => exact urgent (·.seizeExpiry l) (K.seizeExpiry l)
  case firstDigitExpiry l => exact urgent (·.firstDigitExpiry l) (K.firstDigitExpiry l)
  case partialExpiry l => exact urgent (·.partialExpiry l) (K.partialExpiry l)
  case settleExpiry l => exact urgent (·.settleExpiry l) (K.settleExpiry l)
  case highwayFrame slots =>
    split
    · exact row Part.settleUrgent K.settleUrgent
    split
    · exact hs
    · intro hh
      rw [State.takeHighwayFrame_part]
      exact K.takeFrame _ (K.beforeFrame _ (hs hh))
  case shortFrame => exact row Part.settleUrgent K.settleUrgent
  case onPhaseEnd k => exact urgent (·.onPhaseEnd k) (K.onPhaseEnd k)
  case toneOffEnd k => exact urgent (·.toneOffEnd k) (K.toneOffEnd k)
  case frameWatchdogExpiry => exact urgent Part.watchdogExpiry K.watchdogExpiry
  case lockingTimeout => exact row _ (fun p hp => K.lockingTimeout _ (K.settleSamples p hp))
  case resetInput => exact State.working_of_held I _ (Bool.or_true _)
  case powerOn => exact State.working_of_held I _ rfl
  case supplyLow => exact State.working_of_held I _ rfl
  case partResetEnd a b =>
    split
    · exact fun _ => K.atReset _ a b
    · exact row Part.settleUrgent K.settleUrgent
  case receiveError lk =>
    exact row _ (fun p hp => K.takeWaitingError lk _
      (K.takeWaiting lk.other _ (K.lockingTimeout _ (K.settleSamples p hp))))
  case gapTimerExpiry lk => exact urgent (·.gapTimerExpiry lk) (K.gapTimerExpiry lk)
  case shortBreak lk =>
    exact urgent (fun p => (p.longBreak lk).shortBreak lk) (fun p hp => K.shortBreak lk _ (K.longBreak lk p hp))
  case longBreak lk => exact urgent (·.longBreak lk) (K.longBreak lk)
  case auditTimerExpiry lk => exact urgent (·.auditExpiry lk) (K.auditExpiry lk)
  case reportTransmissionStart lk ready => exact urgent (·.updLink lk (fun k => k.startSending ready)) (K.startSending lk ready)
  case reportTransmissionComplete lk => exact urgent (·.finishTransmission lk) (K.finishTransmission lk)
  case characterTaken lk v stop n => exact urgent (·.updLink lk (fun k => k.takeCharacter lk v stop n)) (K.takeCharacter lk v stop n)
  case returnToMarking lk =>
    exact urgent (fun p => (p.longBreak lk).returnToMarking lk) (fun p hp => K.returnToMarking lk _ (K.longBreak lk p hp))

/-- A step takes the front row or idles, so it keeps what every row keeps (assumption log 1). -/
theorem keptByEveryStep_of_rows {I : Part → Prop} (K : Part.KeptByRows I) : KeptByEveryStep I := by
  intro s t hs h
  unfold step at h
  split at h
  · obtain rfl := Host.Outcome.next.inj h
    exact hs
  · next c rest _ => exact exec_keeps K c (s := { s with pending := rest }) hs h

end Sys2Proof.Machine
end

section
/-!
SUPPORT. The operations of the slicer (Machine/Slicing.lean), said once field by field.
-/
namespace Sys2Proof.Machine

/-! ### The slicer's operations, field by field (R8 to R12) -/

/-- Tracking moves one level, and nothing else (R11). -/
theorem Slicer.track_closed (x : Slicer) (t c : Nat) (h : x.debounced = .closed) :
    x.track t c = { x with lc := if t ≤ 16 * c then trackLevel x.lc (16 * c) else x.lc } := by
  cases x
  cases h
  simp only [Slicer.track]
  split <;> rfl
theorem Slicer.track_open (x : Slicer) (t c : Nat) (h : x.debounced = .open) :
    x.track t c = { x with lo := if 16 * c ≤ t then trackLevel x.lo (16 * c) else x.lo } := by
  cases x
  cases h
  simp only [Slicer.track]
  split <;> rfl

@[simp] theorem Slicer.track_debounced (x : Slicer) (t c : Nat) : (x.track t c).debounced = x.debounced := by
  cases h : x.debounced
  · rw [x.track_open t c h]; exact h
  · rw [x.track_closed t c h]; exact h
@[simp] theorem Slicer.track_candidate (x : Slicer) (t c : Nat) : (x.track t c).candidate = x.candidate := by
  unfold Slicer.track; repeat' split
  all_goals rfl
@[simp] theorem Slicer.track_cls (x : Slicer) (t c : Nat) : (x.track t c).cls = x.cls := by
  unfold Slicer.track; repeat' split
  all_goals rfl
@[simp] theorem Slicer.track_faultReviews (x : Slicer) (t c : Nat) : (x.track t c).faultReviews = x.faultReviews := by
  unfold Slicer.track; repeat' split
  all_goals rfl
@[simp] theorem Slicer.track_awaitingFirst (x : Slicer) (t c : Nat) : (x.track t c).awaitingFirst = x.awaitingFirst := by
  unfold Slicer.track; repeat' split
  all_goals rfl

/-- The debounce step sets the debounced state and the candidate run count (R9). -/
theorem Slicer.debounceStep_eq (x : Slicer) (c : Nat) :
    x.debounceStep c = { x with
      debounced := if x.completes c then x.debounced.flip else x.debounced
      candidate := if x.completes c then 0 else x.raised c } := by
  unfold Slicer.debounceStep
  split <;> rfl

@[simp] theorem Slicer.take_debounced (x : Slicer) (c : Nat) :
    (x.take c).debounced = if x.completes c then x.debounced.flip else x.debounced := by
  simp [Slicer.take, Slicer.debounceStep_eq]
@[simp] theorem Slicer.take_candidate (x : Slicer) (c : Nat) :
    (x.take c).candidate = if x.completes c then 0 else x.raised c := by
  simp [Slicer.take, Slicer.debounceStep_eq]
@[simp] theorem Slicer.take_cls (x : Slicer) (c : Nat) : (x.take c).cls = x.cls := by
  simp [Slicer.take, Slicer.debounceStep_eq]
@[simp] theorem Slicer.take_faultReviews (x : Slicer) (c : Nat) : (x.take c).faultReviews = x.faultReviews := by
  simp [Slicer.take, Slicer.debounceStep_eq]
@[simp] theorem Slicer.take_awaitingFirst (x : Slicer) (c : Nat) : (x.take c).awaitingFirst = x.awaitingFirst := by
  simp [Slicer.take, Slicer.debounceStep_eq]

@[simp] theorem Slicer.takeDirect_debounced (x : Slicer) (c : Nat) : (x.takeDirect c).debounced = x.direct c := by
  simp [Slicer.takeDirect]
@[simp] theorem Slicer.takeDirect_candidate (x : Slicer) (c : Nat) : (x.takeDirect c).candidate = 0 := by
  simp [Slicer.takeDirect]

/-- Which level a sample moves, by the debounced state after its step (R11). -/
theorem Slicer.take_levels_closed (x : Slicer) (c : Nat) (h : (x.take c).debounced = .closed) :
    (x.take c).lo = x.lo ∧ (x.take c).lc = if x.threshold ≤ 16 * c then trackLevel x.lc (16 * c) else x.lc := by
  have hd : (x.debounceStep c).debounced = .closed := by rw [← h]; simp [Slicer.take]
  rw [Slicer.take, Slicer.track_closed _ _ _ hd]
  simp [Slicer.debounceStep_eq]
theorem Slicer.take_levels_open (x : Slicer) (c : Nat) (h : (x.take c).debounced = .open) :
    (x.take c).lc = x.lc ∧ (x.take c).lo = if 16 * c ≤ x.threshold then trackLevel x.lo (16 * c) else x.lo := by
  have hd : (x.debounceStep c).debounced = .open := by rw [← h]; simp [Slicer.take]
  rw [Slicer.take, Slicer.track_open _ _ _ hd]
  simp [Slicer.debounceStep_eq]

theorem Loop.flip_ne (a : Loop) : a.flip ≠ a := by cases a <;> decide

end Sys2Proof.Machine
end

section
/-!
PROOF. Levels stay in order (R11): the operations that leave the levels, the samples and seeds that move them, and every step.
-/
namespace Sys2Proof.Machine

/-! ### The lines at a tick -/

/-- The timers of the lines count while the scan is RUNNING (R4, R49). -/
theorem Part.tickLines_running (p : Part) (h : p.scan.state = .running) :
    p.tickLines = { p with lines := Vector.ofFn (fun l => (p.lines.get l).tick) } := by
  simp only [Part.tickLines, h]
theorem Part.tickLines_lost (p : Part) (h : p.scan.state = .lost) : p.tickLines = p := by
  simp only [Part.tickLines, h]
@[simp] theorem Part.tickLines_scan (p : Part) : p.tickLines.scan = p.scan := by
  unfold Part.tickLines; split <;> rfl
@[simp] theorem Part.tickLines_profiles (p : Part) : p.tickLines.profiles = p.profiles := by
  unfold Part.tickLines; split <;> rfl
/-- A tick touches the timer of a line alone. -/
theorem Part.line_tickLines (p : Part) (l : LineId) :
    p.tickLines.line l = p.line l ∨ p.tickLines.line l = (p.line l).tick := by
  cases h : p.scan.state
  · rw [p.tickLines_running h]
    exact Or.inr (Laws.get_ofFn _ l)
  · exact Or.inl (by rw [p.tickLines_lost h])

/-! ### What levels rest on -/

/-- The two levels of a line (R7). -/
abbrev Line.levels (x : Line) : Nat × Nat := (x.slicer.lo, x.slicer.lc)

/-- All that `Part.levelsKept` speaks of: the levels of every line, the held samples and the profile records. -/
def Part.levelFields (p : Part) : (LineId → Nat × Nat) × Vector Byte 48 × Vector Profile 8 :=
  (fun l => (p.line l).levels, p.scan.held, p.profiles)

/-- Levels in order and in range (R11). -/
def levelsInRange (v : Nat × Nat) : Prop := v.1 ≤ v.2 ∧ v.2 ≤ 2032

/-- `Part.levelsKept` is a statement about the level fields alone. -/
theorem Part.levelsKept_iff (p : Part) :
    p.levelsKept ↔ (∀ l, levelsInRange (p.levelFields.1 l)) ∧ (∀ l : LineId, (p.levelFields.2.1.get l).toNat ≤ 127)
      ∧ ∀ i : ProfileId, (p.levelFields.2.2.get i).nominal ≤ 127 := Iff.rfl

theorem Part.levelsKept_of_eq {p q : Part} (h : q.levelFields = p.levelFields) (hp : p.levelsKept) : q.levelsKept := by
  rw [Part.levelsKept_iff, h]
  exact hp

/-! ### Operations that leave the level fields -/

theorem Part.levelFields_of_sameAside {p q : Part} (h : p.sameAside q) : q.levelFields = p.levelFields := by
  have hl : (fun l => (q.line l).levels) = fun l => (p.line l).levels :=
    funext fun l => by simp only [Line.levels, Line.sameAside_slicer (h.line l)]
  simp only [Part.levelFields, hl, h.scan, h.profiles]

/-- A line written with the same levels. -/
@[simp] theorem Part.levelFields_setLine (p : Part) (l : LineId) (x : Line) (h : x.levels = (p.line l).levels) :
    (p.setLine l x).levelFields = p.levelFields := by
  have hl : (fun m => ((p.setLine l x).line m).levels) = fun m => (p.line m).levels := funext fun m => by
    by_cases e : m = l
    · rw [e, Part.line_setLine_self, h]
    · rw [Part.line_setLine_ne _ _ _ _ e]
  simp only [Part.levelFields, hl, Part.setLine_scan, Part.setLine_profiles]

@[simp] theorem Part.levelFields_updLine (p : Part) (l : LineId) (f : Line → Line)
    (h : (f (p.line l)).levels = (p.line l).levels) : (p.updLine l f).levelFields = p.levelFields :=
  p.levelFields_setLine l _ h

@[simp] theorem Part.levelFields_setSender (p : Part) (k : SenderId) (x : Sender) :
    (p.setSender k x).levelFields = p.levelFields := rfl
@[simp] theorem Part.levelFields_setConvention (p : Part) (i : ConventionId) (r : Convention) :
    (p.setConvention i r).levelFields = p.levelFields := rfl
@[simp] theorem Part.levelFields_setTraceSlot (p : Part) (i : SlotId) (o : Option LineId) :
    (p.setTraceSlot i o).levelFields = p.levelFields := rfl
@[simp] theorem Part.levelFields_setTimeBase (p : Part) (f : TimeBase → TimeBase) :
    (p.setTimeBase f).levelFields = p.levelFields := rfl
@[simp] theorem Part.levelFields_leaveGrantQueue (p : Part) (l : LineId) :
    (p.leaveGrantQueue l).levelFields = p.levelFields := rfl
@[simp] theorem Part.levelFields_updLink (p : Part) (lk : LinkId) (f : Link → Link) :
    (p.updLink lk f).levelFields = p.levelFields := by cases lk <;> rfl
@[simp] theorem Part.levelFields_report (p : Part) (lk : LinkId) (b : ReportBody) :
    (p.report lk b).levelFields = p.levelFields := by simp [Part.report]
@[simp] theorem Part.levelFields_reportBoth (p : Part) (b : ReportBody) :
    (p.reportBoth b).levelFields = p.levelFields := by simp [Part.reportBoth]
@[simp] theorem Part.levelFields_traceReport (p : Part) (l : LineId) (a : Loop) (n : Nat) (v : Verdict) :
    (p.traceReport l a n v).levelFields = p.levelFields := by unfold Part.traceReport; split <;> simp
@[simp] theorem Part.levelFields_lineStateReport (p : Part) (l : LineId) (st : LineState) (c : LineCause)
    (lk : Option LinkId) (n : Nat) : (p.lineStateReport l st c lk n).levelFields = p.levelFields := by
  simp [Part.lineStateReport]
@[simp] theorem Part.levelFields_ack (p : Part) (lk : LinkId) (k : Byte) (i : Option Byte) (d : Half) :
    (p.ack lk k i d).levelFields = p.levelFields := by simp [Part.ack]
@[simp] theorem Part.levelFields_reject (p : Part) (lk : LinkId) (r : RejectReason) (k i : Byte) :
    (p.reject lk r k i).levelFields = p.levelFields := by simp [Part.reject]

/-- A fold of steps that leave the level fields leaves them. -/
theorem Part.levelFields_foldl {α : Type} (f : Part → α → Part) (hf : ∀ p x, (f p x).levelFields = p.levelFields)
    (xs : List α) (p : Part) : (xs.foldl f p).levelFields = p.levelFields :=
  foldl_keeps (fun q => q.levelFields = p.levelFields) f (fun q x h => (hf q x).trans h) xs p rfl

theorem Part.levelFields_forLines (f : LineId → Part → Part) (hf : ∀ l p, (f l p).levelFields = p.levelFields)
    (p : Part) : (p.forLines f).levelFields = p.levelFields := Part.levelFields_foldl _ (fun p l => hf l p) _ p

theorem Part.levelFields_forSenders (f : SenderId → Part → Part) (hf : ∀ k p, (f k p).levelFields = p.levelFields)
    (p : Part) : (p.forSenders f).levelFields = p.levelFields := Part.levelFields_foldl _ (fun p k => hf k p) _ p

/-! The store and the pool (chapters 04 and 05). -/

@[simp] theorem Part.levelFields_grantTest (p : Part) : p.grantTest.levelFields = p.levelFields :=
  Part.levelFields_of_sameAside p.grantTest_sameAside
@[simp] theorem Part.levelFields_judge (p : Part) (l : LineId) : (p.judge l).levelFields = p.levelFields :=
  Part.levelFields_of_sameAside (p.judge_sameAside l)
@[simp] theorem Part.levelFields_freeSender (p : Part) (l : LineId) (k : SenderId) :
    (p.freeSender l k).levelFields = p.levelFields := Part.levelFields_of_sameAside (p.freeSender_sameAside l k)
@[simp] theorem Part.levelFields_commit (p : Part) (l : LineId) (k : SenderId) (m : Manner) :
    (p.commit l k m).levelFields = p.levelFields := Part.levelFields_of_sameAside (p.commit_sameAside l k m)
@[simp] theorem Part.levelFields_flush (p : Part) (l : LineId) : (p.flush l).levelFields = p.levelFields :=
  Part.levelFields_of_sameAside (p.flush_sameAside l)
@[simp] theorem Part.levelFields_abortOnly (p : Part) (l : LineId) : (p.abortOnly l).levelFields = p.levelFields :=
  Part.levelFields_of_sameAside (p.abortOnly_sameAside l)
@[simp] theorem Part.levelFields_abort (p : Part) (l : LineId) : (p.abort l).levelFields = p.levelFields :=
  Part.levelFields_of_sameAside (p.abort_sameAside l)
@[simp] theorem Part.levelFields_enqueue (p : Part) (l : LineId) (c : Cell) :
    (p.enqueue l c).levelFields = p.levelFields := p.levelFields_setLine l _ rfl
@[simp] theorem Part.levelFields_onPhaseEnd (p : Part) (k : SenderId) : (p.onPhaseEnd k).levelFields = p.levelFields := by
  unfold Part.onPhaseEnd; split <;> simp
@[simp] theorem Part.levelFields_continueBurst (p : Part) (l : LineId) (k : SenderId) :
    (p.continueBurst l k).levelFields = p.levelFields := by
  unfold Part.continueBurst; split <;> simp [Line.levels]
@[simp] theorem Part.levelFields_toneOffEnd (p : Part) (k : SenderId) : (p.toneOffEnd k).levelFields = p.levelFields := by
  unfold Part.toneOffEnd
  split
  · split <;> simp [Part.release]
  · rfl
@[simp] theorem Part.levelFields_offerDigit (p : Part) (l : LineId) (x : Symbol) (n : Nat) (m : Option Nat)
    (c : ConventionId) : (p.offerDigit l x n m c).levelFields = p.levelFields := by
  unfold Part.offerDigit
  dsimp only
  split <;> simp [Line.levels]
@[simp] theorem Part.levelFields_injectAll (p : Part) (lk : LinkId) (l : LineId) (xs : List Symbol) :
    (p.injectAll lk l xs).levelFields = p.levelFields := by
  rw [Part.injectAll, Part.levelFields_judge]
  exact Part.levelFields_foldl _ (fun q x => by simp [Part.injectOne, Line.levels]) xs p

/-! The supervisor (chapter 03). -/

@[simp] theorem Part.levelFields_startTimer (p : Part) (l : LineId) (k : TimerKind) :
    (p.startTimer l k).levelFields = p.levelFields := p.levelFields_updLine l _ rfl
@[simp] theorem Part.levelFields_dropDigit (p : Part) (l : LineId) : (p.dropDigit l).levelFields = p.levelFields :=
  p.levelFields_updLine l _ rfl
@[simp] theorem Part.levelFields_enterState (p : Part) (l : LineId) (st : LineState) :
    (p.enterState l st).levelFields = p.levelFields := p.levelFields_updLine l _ rfl
@[simp] theorem Part.levelFields_enterWithTimer (p : Part) (l : LineId) (st : LineState) :
    (p.enterWithTimer l st).levelFields = p.levelFields := by
  unfold Part.enterWithTimer; split <;> simp
@[simp] theorem Part.levelFields_giveUpSender (p : Part) (l : LineId) :
    (p.giveUpSender l).levelFields = p.levelFields := by simp [Part.giveUpSender]
@[simp] theorem Part.levelFields_leaveFor (p : Part) (l : LineId) (st : LineState) (c : LineCause) (lk : Option LinkId) :
    (p.leaveFor l st c lk).levelFields = p.levelFields := by
  simp [Part.leaveFor, Part.clearOut, Part.stopTimer, Line.levels]
@[simp] theorem Part.levelFields_quarantine (p : Part) (l : LineId) (c : LineCause) :
    (p.quarantine l c).levelFields = p.levelFields := p.levelFields_leaveFor l _ c none
@[simp] theorem Part.levelFields_raiseFlaps (p : Part) (l : LineId) : (p.raiseFlaps l).levelFields = p.levelFields :=
  p.levelFields_updLine l _ rfl
@[simp] theorem Part.levelFields_seize (p : Part) (l : LineId) : (p.seize l).levelFields = p.levelFields := by
  simp [Part.seize, Line.levels]
@[simp] theorem Part.levelFields_superviseTransition (p : Part) (l : LineId) (new : Loop) :
    (p.superviseTransition l new).levelFields = p.levelFields := by
  unfold Part.superviseTransition
  split
  · simp [Part.startSeizing]
  · unfold Part.abandonSeizure
    split <;> simp
  · simp [Line.levels]
  · simp
  · rfl
@[simp] theorem Part.levelFields_takeClear (p : Part) (l : LineId) : (p.takeClear l).levelFields = p.levelFields := by
  unfold Part.takeClear
  repeat' split
  all_goals simp
@[simp] theorem Part.levelFields_restExpiry (p : Part) (l : LineId) : (p.restExpiry l).levelFields = p.levelFields := by
  unfold Part.restExpiry; split <;> simp [Line.levels]
@[simp] theorem Part.levelFields_seizeExpiry (p : Part) (l : LineId) : (p.seizeExpiry l).levelFields = p.levelFields := by
  unfold Part.seizeExpiry; split <;> simp
@[simp] theorem Part.levelFields_firstDigitExpiry (p : Part) (l : LineId) :
    (p.firstDigitExpiry l).levelFields = p.levelFields := by unfold Part.firstDigitExpiry; split <;> simp
@[simp] theorem Part.levelFields_partialExpiry (p : Part) (l : LineId) :
    (p.partialExpiry l).levelFields = p.levelFields := by unfold Part.partialExpiry; split <;> simp
@[simp] theorem Part.levelFields_settleExpiry (p : Part) (l : LineId) :
    (p.settleExpiry l).levelFields = p.levelFields := by unfold Part.settleExpiry; split <;> simp
@[simp] theorem Part.levelFields_faultReviewed (p : Part) (l : LineId) :
    (p.faultReviewed l).levelFields = p.levelFields := by
  unfold Part.faultReviewed
  repeat' split
  all_goals simp
@[simp] theorem Part.levelFields_classChangeReport (p : Part) (l : LineId) (c : LineClass) :
    (p.classChangeReport l c).levelFields = p.levelFields := by
  unfold Part.classChangeReport
  dsimp only
  split <;> simp
/-- A review sets the class and the count, and leaves the levels (R15, R18). -/
@[simp] theorem Part.levelFields_reviewLine (p : Part) (l : LineId) : (p.reviewLine l).levelFields = p.levelFields := by
  unfold Part.reviewLine
  dsimp only
  repeat' split
  all_goals simp [Line.levels, Line.withSlicer, Slicer.review]
@[simp] theorem Part.levelFields_classReview (p : Part) : p.classReview.levelFields = p.levelFields := by
  unfold Part.classReview
  dsimp only
  repeat' split
  · rfl
  · exact Part.levelFields_forLines _ (fun l p => p.levelFields_reviewLine l) _
  · rfl

/-! The decoder (chapter 02). -/

@[simp] theorem Part.levelFields_endRun (p : Part) (l : LineId) (new : Loop) (t : LineTime) :
    (p.endRun l new t).levelFields = p.levelFields := by
  unfold Part.endRun
  dsimp only
  repeat' split
  all_goals simp [Line.levels, Line.withDecoder]
@[simp] theorem Part.levelFields_accumulate (p : Part) (l : LineId) (t : LineTime) :
    (p.accumulate l t).levelFields = p.levelFields := p.levelFields_updLine l _ rfl
@[simp] theorem Part.levelFields_startRun (p : Part) (l : LineId) (a : Loop) (t : LineTime) :
    (p.startRun l a t).levelFields = p.levelFields := p.levelFields_updLine l _ rfl
@[simp] theorem Part.levelFields_setTests (p : Part) (l : LineId) (t : SampleTests) :
    (p.setTests l t).levelFields = p.levelFields := p.levelFields_updLine l _ rfl
@[simp] theorem Part.levelFields_digitErrorReport (p : Part) (l : LineId) (r : DigitErrorReason) (g : Digit) :
    (p.digitErrorReport l r g).levelFields = p.levelFields := by simp [Part.digitErrorReport]
@[simp] theorem Part.levelFields_breakDigit (p : Part) (l : LineId) : (p.breakDigit l).levelFields = p.levelFields := by
  unfold Part.breakDigit; split <;> simp
@[simp] theorem Part.levelFields_openRunActive (p : Part) (l : LineId) (v : Verdict) (b : Nat) :
    (p.openRunActive l v b).levelFields = p.levelFields := by
  unfold Part.openRunActive
  dsimp only
  split <;> simp [Line.levels, Line.withDecoder]
@[simp] theorem Part.levelFields_openRunConverse (p : Part) (l : LineId) (v : Verdict) (b : Nat) :
    (p.openRunConverse l v b).levelFields = p.levelFields := by
  unfold Part.openRunConverse; split <;> simp
@[simp] theorem Part.levelFields_settleOpen (p : Part) (l : LineId) (b : Nat) :
    (p.settleOpen l b).levelFields = p.levelFields := by
  unfold Part.settleOpen
  dsimp only
  split <;> simp
@[simp] theorem Part.levelFields_settleClosed (p : Part) (l : LineId) (m : Nat) :
    (p.settleClosed l m).levelFields = p.levelFields := by
  unfold Part.settleClosed
  dsimp only
  split <;> simp [Line.levels, Line.withDecoder]
@[simp] theorem Part.levelFields_settleEnded (p : Part) (l : LineId) : (p.settleEnded l).levelFields = p.levelFields := by
  unfold Part.settleEnded
  dsimp only
  repeat' split
  all_goals simp [Line.levels, Line.withDecoder]
@[simp] theorem Part.levelFields_endDigit (p : Part) (l : LineId) (g : Digit) :
    (p.endDigit l g).levelFields = p.levelFields := by
  unfold Part.endDigit
  dsimp only
  split <;> simp [Line.levels]
@[simp] theorem Part.levelFields_confirmationStage (p : Part) (l : LineId) :
    (p.confirmationStage l).levelFields = p.levelFields := by
  unfold Part.confirmationStage
  repeat' split
  all_goals simp [Part.confirmRun, Line.levels, Line.withDecoder]
@[simp] theorem Part.levelFields_gapStage (p : Part) (l : LineId) : (p.gapStage l).levelFields = p.levelFields := by
  unfold Part.gapStage Part.gapTest
  repeat' split
  all_goals simp
@[simp] theorem Part.levelFields_clearStage (p : Part) (l : LineId) : (p.clearStage l).levelFields = p.levelFields := by
  unfold Part.clearStage Part.clearTest
  repeat' split
  all_goals simp
@[simp] theorem Part.levelFields_settleSamples (p : Part) : p.settleSamples.levelFields = p.levelFields :=
  Part.levelFields_forLines _ (fun l p => by simp [Part.finishTests]) p

/-! The links (chapter 08). -/

@[simp] theorem Part.levelFields_failLink (p : Part) (lk : LinkId) (c : PlaneCause) :
    (p.failLink lk c).levelFields = p.levelFields := by simp [Part.failLink]
@[simp] theorem Part.levelFields_receiveError (p : Part) (lk : LinkId) (e : ErrorInfo) :
    (p.receiveError lk e).levelFields = p.levelFields := by
  unfold Part.receiveError; split <;> simp
@[simp] theorem Part.levelFields_auditExpiry (p : Part) (lk : LinkId) : (p.auditExpiry lk).levelFields = p.levelFields := by
  unfold Part.auditExpiry
  dsimp only
  repeat' split
  all_goals simp
@[simp] theorem Part.levelFields_auditCommand (p : Part) (lk : LinkId) (ch : Half) :
    (p.auditCommand lk ch).levelFields = p.levelFields := by
  unfold Part.auditCommand Part.auditReturn
  repeat' split
  all_goals simp [Part.restoreLink, Part.linkStart]
@[simp] theorem Part.levelFields_longBreak (p : Part) (lk : LinkId) : (p.longBreak lk).levelFields = p.levelFields := by
  unfold Part.longBreak; split <;> simp [Part.restartLink, Part.linkStart]
@[simp] theorem Part.levelFields_gapTimerExpiry (p : Part) (lk : LinkId) :
    (p.gapTimerExpiry lk).levelFields = p.levelFields := by
  unfold Part.gapTimerExpiry; split <;> simp
@[simp] theorem Part.levelFields_shortBreak (p : Part) (lk : LinkId) : (p.shortBreak lk).levelFields = p.levelFields := by
  unfold Part.shortBreak; split <;> simp
@[simp] theorem Part.levelFields_returnToMarking (p : Part) (lk : LinkId) :
    (p.returnToMarking lk).levelFields = p.levelFields := by
  unfold Part.returnToMarking; split <;> simp
@[simp] theorem Part.levelFields_finishTransmission (p : Part) (lk : LinkId) :
    (p.finishTransmission lk).levelFields = p.levelFields := by simp [Part.finishTransmission]
@[simp] theorem Part.levelFields_dropWaiting (p : Part) (lk : LinkId) :
    (p.dropWaiting lk).levelFields = p.levelFields := by simp [Part.dropWaiting]

/-! Consequences and the time base (chapter 09). -/

@[simp] theorem Part.levelFields_lockingTimeout (p : Part) : p.lockingTimeout.levelFields = p.levelFields := by
  unfold Part.lockingTimeout
  dsimp only
  repeat' split
  all_goals simp
@[simp] theorem Part.levelFields_takeWaitingError (p : Part) (lk : LinkId) :
    (p.takeWaitingError lk).levelFields = p.levelFields := by
  unfold Part.takeWaitingError; split <;> simp
@[simp] theorem Part.levelFields_expireLine (p : Part) (l : LineId) : (p.expireLine l).levelFields = p.levelFields := by
  simp [Part.expireLine]
@[simp] theorem Part.levelFields_settleExpiries (p : Part) : p.settleExpiries.levelFields = p.levelFields := by
  simp [Part.settleExpiries, Part.expireLink, Part.levelFields_forLines]
@[simp] theorem Part.levelFields_settlePhases (p : Part) : p.settlePhases.levelFields = p.levelFields :=
  Part.levelFields_forSenders _ (fun k p => by simp) p
@[simp] theorem Part.levelFields_tickLines (p : Part) : p.tickLines.levelFields = p.levelFields := by
  have hl : (fun l => (p.tickLines.line l).levels) = fun l => (p.line l).levels := funext fun l => by
    rcases p.line_tickLines l with h | h <;> rw [h]
    rfl
  simp only [Part.levelFields, hl, Part.tickLines_scan, Part.tickLines_profiles]
@[simp] theorem Part.levelFields_abortForLoss (p : Part) (k : SenderId) :
    (p.abortForLoss k).levelFields = p.levelFields := by
  unfold Part.abortForLoss; split <;> simp
@[simp] theorem Part.levelFields_sendersTakeFrame (p : Part) : p.sendersTakeFrame.levelFields = p.levelFields := rfl
@[simp] theorem Part.levelFields_enterLocked (p : Part) : p.enterLocked.levelFields = p.levelFields := by
  simp [Part.enterLocked]

/-! ### Levels stay in order (R11) -/

/-- Tracking by the threshold of the levels themselves keeps them in order: a sample moves Lc only from Lo upwards, and
Lo only from Lc downwards. -/
theorem Slicer.track_inRange (x : Slicer) (t c : Nat) (ht : t = (x.lc + x.lo) / 2) (hc : c ≤ 127)
    (h : levelsInRange (x.lo, x.lc)) : levelsInRange ((x.track t c).lo, (x.track t c).lc) := by
  obtain ⟨hle, hmax⟩ := h
  cases hd : x.debounced
  · have hb := trackLevel_between x.lo (16 * c)
    rw [x.track_open t c hd]
    simp only [levelsInRange] at *
    split <;> omega
  · have hb := trackLevel_between x.lc (16 * c)
    rw [x.track_closed t c hd]
    simp only [levelsInRange] at *
    split <;> omega

theorem Slicer.take_inRange (x : Slicer) (c : Nat) (hc : c ≤ 127) (h : levelsInRange (x.lo, x.lc)) :
    levelsInRange ((x.take c).lo, (x.take c).lc) :=
  Slicer.track_inRange _ _ c (by rw [Slicer.debounceStep_eq]; rfl) hc (by rw [Slicer.debounceStep_eq]; exact h)

theorem Slicer.takeDirect_inRange (x : Slicer) (c : Nat) (hc : c ≤ 127) (h : levelsInRange (x.lo, x.lc)) :
    levelsInRange ((x.takeDirect c).lo, (x.takeDirect c).lc) :=
  Slicer.track_inRange _ _ c rfl hc h

theorem levelsInRange_seed (n : Nat) (h : n ≤ 127) : levelsInRange (0, 16 * n) := ⟨Nat.zero_le _, by omega⟩

/-- A line written with levels in range. -/
theorem Part.levelsKept_updLine {p : Part} (l : LineId) (f : Line → Line) (hp : p.levelsKept)
    (h : levelsInRange (f (p.line l)).levels) : (p.updLine l f).levelsKept := by
  obtain ⟨hl, hs, hr⟩ := hp
  refine ⟨fun m => ?_, hs, hr⟩
  by_cases e : m = l
  · rw [e, Part.line_updLine_self]
    exact h
  · rw [Part.line_updLine_ne _ _ _ _ e]
    exact hl m

theorem Part.firstSample_levelsKept {p : Part} (l : LineId) (c : Nat) (t : LineTime) (hc : c ≤ 127) (hp : p.levelsKept) :
    (p.firstSample l c t).levelsKept := by
  have hq := Part.levelsKept_updLine l (fun x => x.withSlicer (fun s => s.takeDirect c)) hp
    ((p.line l).slicer.takeDirect_inRange c hc (hp.1 l))
  refine Part.levelsKept_of_eq ?_ hq
  unfold Part.firstSample
  dsimp only
  split <;> simp [Part.startSeizing]

theorem Part.debouncedSample_levelsKept {p : Part} (l : LineId) (c : Nat) (t : LineTime) (hc : c ≤ 127)
    (hp : p.levelsKept) : (p.debouncedSample l c t).levelsKept := by
  have hq := Part.levelsKept_updLine l (fun x => x.withSlicer (fun s => s.take c)) hp
    ((p.line l).slicer.take_inRange c hc (hp.1 l))
  refine Part.levelsKept_of_eq ?_ hq
  unfold Part.debouncedSample
  dsimp only
  split <;> simp

theorem Part.handSample_levelsKept {p : Part} (l : LineId) (c : Nat) (t : LineTime) (hc : c ≤ 127) (hp : p.levelsKept) :
    (p.handSample l c t).levelsKept := by
  unfold Part.handSample
  repeat' split
  · exact hp
  · exact Part.firstSample_levelsKept l c t hc hp
  · exact Part.debouncedSample_levelsKept l c t hc hp

theorem Part.restoreSample_levelsKept {p : Part} (l : LineId) (c : Nat) (t : LineTime) (hc : c ≤ 127)
    (hp : p.levelsKept) : (p.restoreSample l c t).levelsKept := by
  have hq := Part.levelsKept_updLine l (fun x => x.withSlicer (fun s => s.takeDirect c)) hp
    ((p.line l).slicer.takeDirect_inRange c hc (hp.1 l))
  unfold Part.restoreSample
  dsimp only
  split
  · exact hp
  split
  · exact Part.firstSample_levelsKept l c t hc hp
  · refine Part.levelsKept_of_eq ?_ hq
    split <;> simp

/-! ### The scan port keeps the levels in order -/

theorem Part.handHeld_levelsKept {p : Part} (t : LineTime) (hp : p.levelsKept) : (p.handHeld t).levelsKept := by
  unfold Part.handHeld
  exact Part.forLines_keeps Part.levelsKept _ (fun l q h => Part.handSample_levelsKept l _ t (h.2.1 l) h) p hp

@[simp] theorem Part.levelFields_loseLine (p : Part) (l : LineId) : (p.loseLine l).levelFields = p.levelFields := by
  unfold Part.loseLine
  split <;> simp

@[simp] theorem Part.levelFields_loseScan (p : Part) : p.loseScan.levelFields = p.levelFields :=
  (Part.levelFields_forLines _ (fun l p => p.levelFields_loseLine l) _).trans (Part.levelFields_reportBoth _ _)

theorem Part.scanMiss_levelsKept {p : Part} (t : LineTime) (hp : p.levelsKept) : (p.scanMiss t).levelsKept := by
  unfold Part.scanMiss
  split
  · exact hp
  split
  · exact Part.handHeld_levelsKept t hp
  · exact Part.levelsKept_of_eq p.levelFields_loseScan hp

/-- The sample bytes of a good frame are at most 127 (R2). -/
theorem heldOf_le (bs : List Byte) (h : frameGood bs = true) (l : LineId) : ((heldOf bs).get l).toNat ≤ 127 := by
  rw [heldOf, Laws.get_ofFn]
  simp only [frameGood, Bool.and_eq_true, List.all_eq_true, decide_eq_true_eq] at h
  by_cases hl : l.val < bs.length
  · have hm : bs[l.val] ∈ bs.take 48 := List.mem_take_iff_getElem.2 ⟨l.val, by omega, rfl⟩
    rw [List.getD_eq_getElem _ _ hl]
    have := h.1 _ hm
    omega
  · rw [List.getD_eq_default _ _ (by omega)]
    decide

theorem Part.restoreScan_levelsKept {p : Part} (t : LineTime) (hp : p.levelsKept) : (p.restoreScan t).levelsKept := by
  unfold Part.restoreScan
  exact Part.forLines_keeps Part.levelsKept _ (fun l q h => Part.restoreSample_levelsKept l _ t (h.2.1 l) h) _
    (Part.levelsKept_of_eq (p.levelFields_reportBoth _) hp)

theorem Part.judgeFrame_levelsKept {p : Part} (bs : List Byte) (t : LineTime) (hp : p.levelsKept) :
    (p.judgeFrame bs t).levelsKept := by
  unfold Part.judgeFrame
  dsimp only
  split
  · next hg =>
    have hq : ({ p with scan := { p.scan with state := .running, misses := 0, held := heldOf bs } } : Part).levelsKept :=
      ⟨hp.1, heldOf_le bs hg, hp.2.2⟩
    split
    · exact Part.handHeld_levelsKept t hq
    · exact Part.restoreScan_levelsKept t hq
  · exact Part.scanMiss_levelsKept t hp

theorem Part.takeScanBytes_levelsKept {p : Part} (bs : List Byte) (hp : p.levelsKept) :
    (p.takeScanBytes bs).levelsKept := by
  unfold Part.takeScanBytes
  dsimp only
  split
  · exact hp
  split
  · exact Part.judgeFrame_levelsKept _ _ hp
  · exact hp

theorem Part.strobe_levelsKept {p : Part} (now : LineTime) (hp : p.levelsKept) : (p.strobe now).levelsKept := by
  unfold Part.strobe
  dsimp only
  repeat' split
  · exact hp
  · exact Part.scanMiss_levelsKept _ hp
  · exact hp

theorem Part.tickCore_levelsKept {p : Part} (hp : p.levelsKept) : p.tickCore.levelsKept :=
  Part.strobe_levelsKept _ (Part.levelsKept_of_eq (by simp) hp)

/-! ### The commands keep the levels in order -/

/-- A line command whose effect leaves the level fields keeps the levels in order. -/
theorem Part.lineCommand_levelsKept {p : Part} (lk : LinkId) (kind line : Byte) {f : LineId → Part → Part}
    (hf : ∀ l p, (f l p).levelFields = p.levelFields) (hp : p.levelsKept) : (p.lineCommand lk kind line f).levelsKept :=
  Part.lineCommand_keeps Part.levelsKept lk kind line (fun p => Part.levelsKept_of_eq (p.levelFields_reject ..))
    (fun l p => Part.levelsKept_of_eq (hf l p)) hp

@[simp] theorem Part.levelFields_inStates (p : Part) (lk : LinkId) (kind line : Byte) (l : LineId)
    (states : List LineState) (f : Part → Part) (hf : ∀ p, (f p).levelFields = p.levelFields) :
    (p.inStates lk kind line l states f).levelFields = p.levelFields :=
  Part.inStates_keeps (fun q => q.levelFields = p.levelFields) lk kind line l states (p.levelFields_reject ..) (hf p)

@[simp] theorem Part.levelFields_freeTrace (p : Part) (l : LineId) : (p.freeTrace l).levelFields = p.levelFields := by
  unfold Part.freeTrace
  split
  · rfl
  · exact Part.levelFields_updLine _ l _ rfl
@[simp] theorem Part.levelFields_setGate (p : Part) (lk : LinkId) (l : LineId) (g : Gate) (c : LineCause) :
    (p.setGate lk l g c).levelFields = p.levelFields := by
  unfold Part.setGate Part.gateChanged
  repeat' split
  all_goals simp
@[simp] theorem Part.levelFields_restoreEntry (p : Part) (l : LineId) : (p.restoreEntry l).levelFields = p.levelFields := by
  unfold Part.restoreEntry; split <;> simp
@[simp] theorem Part.levelFields_withdraw (p : Part) (lk : LinkId) (l : LineId) :
    (p.withdraw lk l).levelFields = p.levelFields := by simp [Part.withdraw]
@[simp] theorem Part.levelFields_injectSymbols (p : Part) (lk : LinkId) (b : Byte) (l : LineId) (xs : List Symbol) :
    (p.injectSymbols lk b l xs).levelFields = p.levelFields := by
  unfold Part.injectSymbols
  dsimp only
  split <;> simp

/-- ENABLE seeds the levels from a profile in range (R12). -/
theorem Part.enableCommand_levelsKept {p : Part} (lk : LinkId) (line profile : Byte) (hp : p.levelsKept) :
    (p.enableCommand lk line profile).levelsKept := by
  refine Part.lineProfileCommand_keeps Part.levelsKept lk _ line profile
    (fun p => Part.levelsKept_of_eq (p.levelFields_reject ..)) (fun l i p h => ?_) hp
  refine Part.inStates_keeps Part.levelsKept lk _ line l _ (Part.levelsKept_of_eq (p.levelFields_reject ..) h) ?_
  have hq := Part.levelsKept_updLine l (fun x => x.enabled i (p.profile i)) h (levelsInRange_seed _ (h.2.2 i))
  exact Part.levelsKept_of_eq (by simp) hq

/-- RELEARN seeds the levels from a profile in range (R13). -/
theorem Part.relearnCommand_levelsKept {p : Part} (lk : LinkId) (line : Byte) (hp : p.levelsKept) :
    (p.relearnCommand lk line).levelsKept := by
  refine Part.lineCommand_keeps Part.levelsKept lk _ line
    (fun p => Part.levelsKept_of_eq (p.levelFields_reject ..)) (fun l p h => ?_) hp
  refine Part.inStates_keeps Part.levelsKept lk _ line l _ (Part.levelsKept_of_eq (p.levelFields_reject ..) h) ?_
  have hq : (p.relearn l).levelsKept :=
    Part.levelsKept_updLine l _ h (levelsInRange_seed _ (h.2.2 (p.line l).profile))
  exact Part.levelsKept_of_eq (p.relearn l |>.levelFields_ack ..) hq

/-- WRITE PROFILE stores a clamped record (R137). -/
theorem Part.writeProfileCommand_levelsKept {p : Part} (lk : LinkId) (profile : Byte) (r : RawProfile)
    (hp : p.levelsKept) : (p.writeProfileCommand lk profile r).levelsKept := by
  refine Part.onLink_keeps Part.levelsKept lk (fun p h => ?_) hp
  split
  · exact Part.levelsKept_of_eq (p.levelFields_reject ..) h
  · next i _ =>
    have hq : (p.setProfile i (clampProfile r)).levelsKept := by
      refine ⟨h.1, h.2.1, fun j => ?_⟩
      by_cases e : j = i
      · rw [e, Part.profile_setProfile_self]
        exact (clampTo_bounds 8 127 _ (by decide)).2
      · rw [Part.profile_setProfile_ne _ _ _ _ e]
        exact h.2.2 j
    exact Part.levelsKept_of_eq (by simp) hq

/-- A command of the profile block that stores no profile leaves the level fields. -/
theorem Part.onLink_levelsKept {p : Part} (lk : LinkId) {f : Part → Part} (hf : ∀ p, (f p).levelFields = p.levelFields)
    (hp : p.levelsKept) : (p.onLink lk f).levelsKept :=
  Part.onLink_keeps Part.levelsKept lk (fun p => Part.levelsKept_of_eq (hf p)) hp

theorem Part.takeCommand_levelsKept {p : Part} (c : Instr) (hp : p.levelsKept) : (p.takeCommand c).levelsKept := by
  cases c with
  | audit lk ch => exact Part.levelsKept_of_eq (p.levelFields_auditCommand lk ch) hp
  | enable lk l i => exact Part.enableCommand_levelsKept lk l i hp
  | disable lk l => exact Part.lineCommand_levelsKept lk _ l (fun _ _ => by simp) hp
  | setProfile lk l i =>
    refine Part.lineProfileCommand_keeps Part.levelsKept lk _ l i
      (fun p => Part.levelsKept_of_eq (p.levelFields_reject ..)) (fun m j p => Part.levelsKept_of_eq ?_) hp
    refine p.levelFields_inStates _ _ _ _ _ _ (fun p => ?_)
    dsimp only
    split <;> simp
  | openGate lk l => exact Part.lineCommand_levelsKept lk _ l (fun _ _ => by simp) hp
  | shutGate lk l => exact Part.lineCommand_levelsKept lk _ l (fun _ _ => by simp) hp
  | converse lk l => exact Part.lineCommand_levelsKept lk _ l (fun _ _ => by simp) hp
  | resume lk l => exact Part.lineCommand_levelsKept lk _ l (fun _ _ => by simp) hp
  | park lk l => exact Part.lineCommand_levelsKept lk _ l (fun _ _ => by simp) hp
  | restore lk l => exact Part.lineCommand_levelsKept lk _ l (fun _ _ => by simp) hp
  | withdraw lk l => exact Part.lineCommand_levelsKept lk _ l (fun _ _ => by simp) hp
  | inject lk l xs =>
    refine Part.lineCommand_levelsKept lk _ l (fun m p => p.levelFields_inStates _ _ _ _ _ _ (fun p => ?_)) hp
    split
    · simp
    · split <;> simp
  | relearn lk l => exact Part.relearnCommand_levelsKept lk l hp
  | traceOn lk l =>
    refine Part.lineCommand_levelsKept lk _ l (fun m p => p.levelFields_inStates _ _ _ _ _ _ (fun p => ?_)) hp
    split
    · simp
    · rw [Part.levelFields_ack]
      exact Part.levelFields_updLine _ m _ rfl
    · simp
  | traceOff lk l => exact Part.lineCommand_levelsKept lk _ l (fun _ _ => by simp) hp
  | queryLine lk l => exact Part.lineCommand_levelsKept lk _ l (fun _ _ => by simp) hp
  | writeProfile lk i r => exact Part.writeProfileCommand_levelsKept lk i r hp
  | writeConvention lk i es =>
    refine Part.onLink_levelsKept lk (fun p => ?_) hp
    split <;> simp
  | writeGlobals lk r => 
    refine Part.onLink_levelsKept lk (fun p => ?_) hp
    rw [Part.levelFields_ack, Part.levelFields_reportBoth]
    rfl
  | readSettings lk k i =>
    refine Part.onLink_levelsKept lk (fun p => ?_) hp
    split <;> simp
  | _ => exact hp

/-! ### Time and reset keep the levels in order -/

theorem Part.loseClock_levelsKept {p : Part} (hp : p.levelsKept) : p.loseClock.levelsKept := by
  have hq : (p.settlePhases.settleExpiries.setTimeBase
      (fun t => { t with state := .fallback, divider := 0, runCount := 0 })).levelsKept :=
    Part.levelsKept_of_eq (by simp) hp
  refine Part.levelsKept_of_eq (Part.levelFields_reportBoth _ _) (Part.levelsKept_of_eq ?_ (Part.tickCore_levelsKept hq))
  exact Part.levelFields_forSenders _ (fun k p => p.levelFields_abortForLoss k) _

theorem Part.watchdogExpiry_levelsKept {p : Part} (hp : p.levelsKept) : p.watchdogExpiry.levelsKept := by
  unfold Part.watchdogExpiry
  split
  · exact hp
  · exact hp
  · exact Part.loseClock_levelsKept hp
  · exact hp

theorem Part.takeFrame_levelsKept {p : Part} (hp : p.levelsKept) : p.takeFrame.levelsKept := by
  unfold Part.takeFrame Part.countFrame
  have hq : p.sendersTakeFrame.levelsKept := hp
  dsimp only
  repeat' split
  · exact Part.tickCore_levelsKept hq
  · exact hq
  · exact Part.levelsKept_of_eq (Part.levelFields_enterLocked _) hq
  · exact hq
  · exact Part.levelsKept_of_eq (Part.levelFields_enterLocked _) hq
  · exact hq

theorem Part.atReset_levelsKept (cause : ResetCause) (a b : WireLevel) : (Part.atReset cause a b).levelsKept := by
  refine ⟨fun l => ?_, fun l => ?_, fun i => ?_⟩
  · have h : (Part.atReset cause a b).line l = Line.atReset := Laws.get_replicate _ l
    rw [h]
    decide
  · have h : (Part.atReset cause a b).scan.held.get l = 0 := Laws.get_replicate _ l
    rw [h]
    decide
  · have h : (Part.atReset cause a b).profile i = Profile.default := Laws.get_replicate _ i
    rw [h]
    decide

/-- The operations of the rows keep the levels in order. -/
theorem Part.levelsKept_keptByRows : Part.KeptByRows Part.levelsKept where
  confirmationStage l p := Part.levelsKept_of_eq (p.levelFields_confirmationStage l)
  gapStage l p := Part.levelsKept_of_eq (p.levelFields_gapStage l)
  clearStage l p := Part.levelsKept_of_eq (p.levelFields_clearStage l)
  lockingTimeout p := Part.levelsKept_of_eq p.levelFields_lockingTimeout
  dropWaiting lk p := Part.levelsKept_of_eq (p.levelFields_dropWaiting lk)
  receiveError lk e p := Part.levelsKept_of_eq (p.levelFields_receiveError lk e)
  takeCommand c _ := Part.takeCommand_levelsKept c
  takeScanBytes bs _ := Part.takeScanBytes_levelsKept bs
  classReview p := Part.levelsKept_of_eq p.levelFields_classReview
  restExpiry l p := Part.levelsKept_of_eq (p.levelFields_restExpiry l)
  seizeExpiry l p := Part.levelsKept_of_eq (p.levelFields_seizeExpiry l)
  firstDigitExpiry l p := Part.levelsKept_of_eq (p.levelFields_firstDigitExpiry l)
  partialExpiry l p := Part.levelsKept_of_eq (p.levelFields_partialExpiry l)
  settleExpiry l p := Part.levelsKept_of_eq (p.levelFields_settleExpiry l)
  longBreak lk p := Part.levelsKept_of_eq (p.levelFields_longBreak lk)
  shortBreak lk p := Part.levelsKept_of_eq (p.levelFields_shortBreak lk)
  returnToMarking lk p := Part.levelsKept_of_eq (p.levelFields_returnToMarking lk)
  gapTimerExpiry lk p := Part.levelsKept_of_eq (p.levelFields_gapTimerExpiry lk)
  auditExpiry lk p := Part.levelsKept_of_eq (p.levelFields_auditExpiry lk)
  startSending lk _ p := Part.levelsKept_of_eq (p.levelFields_updLink lk _)
  finishTransmission lk p := Part.levelsKept_of_eq (p.levelFields_finishTransmission lk)
  takeCharacter lk _ _ _ p := Part.levelsKept_of_eq (p.levelFields_updLink lk _)
  onPhaseEnd k p := Part.levelsKept_of_eq (p.levelFields_onPhaseEnd k)
  toneOffEnd k p := Part.levelsKept_of_eq (p.levelFields_toneOffEnd k)
  watchdogExpiry _ := Part.watchdogExpiry_levelsKept
  setWatchdog _ p := Part.levelsKept_of_eq (p.levelFields_setTimeBase _)
  tickCore _ := Part.tickCore_levelsKept
  takeFrame _ := Part.takeFrame_levelsKept
  atReset := Part.atReset_levelsKept

/-- Settles O55: a sample moves Lc only from Lo upwards and Lo only from Lc downwards, and every other operation leaves
the levels or seeds them. -/
theorem levelsStayInOrder : Obligations.LevelsStayInOrder := by
  unfold Obligations.LevelsStayInOrder
  exact keptByEveryStep_of_rows Part.levelsKept_keptByRows

end Sys2Proof.Machine
end

section
/-!
PROOF. One debounced sample at a slicer (R8 to R11, R16).
-/
namespace Sys2Proof.Machine

/-! ### One debounced sample in the terms of R8 to R11 -/

/-- The sample lies against the debounced state: beyond T by more than H on the other side (R8, R9). -/
theorem Slicer.against_iff (x : Slicer) (c : Nat) : x.against c = true ↔
    (x.debounced = .closed ∧ 16 * (c : Int) < x.threshold - x.hysteresis)
      ∨ (x.debounced = .open ∧ (x.threshold : Int) + x.hysteresis < 16 * (c : Int)) := by
  cases h : x.debounced <;> simp [Slicer.against, h, Slicer.openSide, Slicer.closedSide] <;> omega

/-- A count raised to D of the class completes a transition (R9, R16). -/
theorem Slicer.completes_iff (x : Slicer) (c : Nat) :
    x.completes c = true ↔ x.against c = true ∧ x.cls.debounce ≤ x.raised c := by
  cases h : x.against c <;> simp [Slicer.completes, Slicer.raised, h]

/-- The tracked level as an integer: an eighth of the way, the quotient truncated toward zero (R11). -/
theorem trackLevel_int (level target : Nat) :
    (trackLevel level target : Int) = level + ((target : Int) - level).tdiv 8 := by
  have hb := trackLevel_between level target
  unfold trackLevel at *
  simp only [Int.ofNat_eq_natCast] at *
  refine Int.toNat_of_nonneg ?_
  rw [Int.tdiv_eq_ediv]
  split
  · omega
  · rw [Int.sign_eq_one_of_pos (by decide)]
    omega

/-- Settles O6, from what the debounce step and tracking do to each field. -/
theorem slicerTakesASample : Obligations.SlicerTakesASample := by
  unfold Obligations.SlicerTakesASample
  intro x y c n t h against flips _ hy ht hh hag hn1 hn0 hfl
  have hT : t = x.threshold := ht
  have hH : h = x.hysteresis := hh
  have hA : against ↔ x.against c = true := by rw [hag, hT, hH, x.against_iff c]
  have hN : n = x.raised c := by
    unfold Slicer.raised
    split
    · next ha => exact hn1 (hA.2 ha)
    · next ha => exact hn0 (fun k => ha (hA.1 k))
  have hF : flips ↔ x.completes c = true := by
    rw [hfl, hA, x.completes_iff c, hN]
    cases x.cls <;> rfl
  subst hy
  refine ⟨fun k => ?_, fun k => ?_, fun k => ?_, fun k => ?_, x.take_cls c, x.take_faultReviews c, x.take_awaitingFirst c⟩
  · rw [Slicer.take_debounced, Slicer.take_candidate, if_pos (hF.1 k), if_pos (hF.1 k)]
    exact ⟨x.debounced.flip_ne, rfl⟩
  · have hk : ¬ x.completes c = true := fun e => k (hF.2 e)
    rw [Slicer.take_debounced, Slicer.take_candidate, if_neg hk, if_neg hk]
    exact ⟨rfl, hN.symm⟩
  · obtain ⟨hlo, hlc⟩ := x.take_levels_closed c k
    refine ⟨hlo, fun hle => ?_, fun hlt => ?_⟩
    · rw [hlc, if_pos (by omega), trackLevel_int]
      simp
    · rw [hlc, if_neg (by omega)]
  · obtain ⟨hlc, hlo⟩ := x.take_levels_open c k
    refine ⟨hlc, fun hle => ?_, fun hlt => ?_⟩
    · rw [hlo, if_pos (by omega), trackLevel_int]
      simp
    · rw [hlo, if_neg (by omega)]

end Sys2Proof.Machine
end

section
/-!
PROOF. Entry to a state as one write of a line (R26, R49), and the commands RELEARN (R43) and ENABLE (R66).
-/
namespace Sys2Proof.Machine

/-! ### Entry to a state, as one write of the line (R26, R49) -/

/-- A line written with its profile reads the same profile record. -/
theorem Part.profileOfLine_setLine (p : Part) (l m : LineId) (x : Line) (h : x.profile = (p.line l).profile) :
    (p.setLine l x).profileOfLine m = p.profileOfLine m := by
  by_cases e : m = l
  · subst e
    simp [Part.profileOfLine, h]
  · simp [Part.profileOfLine, Part.line_setLine_ne _ _ _ _ e]

theorem Part.startTimer_eq (p : Part) (l : LineId) (k : TimerKind) :
    p.startTimer l k = p.setLine l { p.line l with timer := some ⟨k, timerLength k (p.line l) (p.profileOfLine l)⟩ } := rfl

theorem Part.startTimer_setLine (p : Part) (l : LineId) (x : Line) (k : TimerKind) (h : x.profile = (p.line l).profile) :
    (p.setLine l x).startTimer l k = p.setLine l { x with timer := some ⟨k, timerLength k x (p.profileOfLine l)⟩ } := by
  rw [Part.startTimer_eq, Part.line_setLine_self, Part.setLine_setLine, Part.profileOfLine_setLine _ _ _ _ h]

/-- A line's record right after it entered a state, with no timer running (R26, R49). -/
def Line.entered (x : Line) (st : LineState) : Line := { x with state := st, timer := none, decoder := x.decoder.enter st }

theorem Part.enterState_eq (p : Part) (l : LineId) (st : LineState) :
    p.enterState l st = p.setLine l ((p.line l).entered st) := rfl

/-- A timer has its length from the run as it stood before the entry. -/
theorem timerLength_entered (x : Line) (st : LineState) (k : TimerKind) (r : Profile) :
    timerLength k (x.entered st) r = timerLength k x r := by
  cases k <;> cases st <;> rfl

theorem Part.enterWithTimer_timed (p : Part) (l : LineId) (st : LineState) (k : TimerKind) (h : st.timer = some k) :
    p.enterWithTimer l st = p.setLine l { (p.line l).entered st with
      timer := some ⟨k, timerLength k (p.line l) (p.profileOfLine l)⟩ } := by
  simp only [Part.enterWithTimer, h]
  rw [Part.enterState_eq, Part.startTimer_setLine p l _ k (by rfl), timerLength_entered]

/-- A LINE STATE report carries the state and the gate just written (R50). -/
theorem Part.lineStateReport_setLine (p : Part) (l : LineId) (x : Line) (st : LineState) (c : LineCause)
    (lk : Option LinkId) (n : Nat) :
    (p.setLine l x).lineStateReport l st c lk n = (p.setLine l x).reportBoth (.lineState l x.state st x.gate c lk n) := by
  rw [Part.lineStateReport, Part.line_setLine_self]

/-! ### RELEARN and ENABLE -/

/-- A command's row at a ready state is the command itself (R161). -/
theorem exec_command_ready (c : Instr) (lk : LinkId) (kind : Byte) (body : List Byte) (s : State) (h : s.ready)
    (hm : commandMessage c = some (lk, kind, body)) : exec c s = .next (s.withPart (s.part.takeCommand c)) := by
  rw [exec_command c lk kind body s hm, State.onPart_working s _ h.1, s.part.arrive_settled h.2]
  rfl

/-- Settles O19. -/
theorem relearnSeedsFromTheProfile : Obligations.RelearnSeedsFromTheProfile := by
  unfold Obligations.RelearnSeedsFromTheProfile
  intro s lk l hr ht hs
  rw [exec_command_ready _ lk _ _ s hr rfl]
  change Host.Outcome.next (s.withPart (s.part.relearnCommand lk (lowChar l.val))) = _
  rw [Part.relearnCommand, Part.lineCommand_line _ _ _ _ _ ht,
    Part.inStates_in _ _ _ _ _ _ _ ((enabledStates_mem _).2 hs)]
  rfl

/-- Settles O22. -/
theorem enableStartsTheLineInIdle : Obligations.EnableStartsTheLineInIdle := by
  unfold Obligations.EnableStartsTheLineInIdle
  intro s lk l i hr ht hs
  rw [exec_command_ready _ lk _ _ s hr rfl]
  change Host.Outcome.next (s.withPart (s.part.enableCommand lk (lowChar l.val) (lowChar i.val))) = _
  rw [Part.enableCommand, Part.lineProfileCommand_line _ _ _ _ _ _ ht,
    Part.inStates_in _ _ _ _ _ _ _ (by simp [hs])]
  rw [Part.enterWithTimer_timed _ _ _ .rest rfl, Part.lineStateReport_setLine, Part.updLine, Part.line_setLine_self,
    Part.setLine_setLine]
  rfl

end Sys2Proof.Machine
end

section
/-!
PROOF. The millisecond tick (R178) and the oscillator mark that gives it (R181).
-/
namespace Sys2Proof.Machine

/-! ### The tick of a link -/

/-- In a break the break's count rises and the gap timer stands (R156, assumption log 24). -/
theorem Link.tick_breaking (k : Link) (n : Nat) (h : k.receiver = .breaking n) :
    k.tick = { k with auditTimer := k.auditTimer.map (fun t => t - 1), receiver := .breaking (n + 1) } := by
  simp only [Link.tick, Link.tickAssembler, Receiver.tick, h]

/-- Outside a break the gap timer counts, if it runs (R159). -/
theorem Link.tick_not_breaking (k : Link) (h : ∀ n, k.receiver ≠ .breaking n) :
    k.tick = { k with auditTimer := k.auditTimer.map (fun t => t - 1), assembler := k.assembler.tick } := by
  cases hr : k.receiver with
  | listening => simp only [Link.tick, Link.tickAssembler, Receiver.tick, hr]
  | deaf => simp only [Link.tick, Link.tickAssembler, Receiver.tick, hr]
  | breaking n => exact absurd hr (h n)

/-! ### The tick of the part -/

/-- The part at a tick, before its strobe: line time and every timer that counts it (R178). -/
def Part.ticked (p : Part) : Part :=
  ((p.setTimeBase TimeBase.tick).tickLines.updLink .a Link.tick).updLink .b Link.tick

theorem Part.tickCore_eq (p : Part) : p.tickCore = p.ticked.strobe (p.timeBase.lineTime + 1) := rfl

theorem Part.ticked_eq (p : Part) : p.ticked = { p with
    timeBase := p.timeBase.tick
    lines := match p.scan.state with
      | .running => Vector.ofFn (fun l => (p.lines.get l).tick)
      | .lost => p.lines
    linkA := p.linkA.tick
    linkB := p.linkB.tick } := by
  cases h : p.scan.state
  · rw [Part.ticked, Part.tickLines_running (p.setTimeBase _) h]
    rfl
  · rw [Part.ticked, Part.tickLines_lost (p.setTimeBase _) h]
    rfl

/-- A strobe that cuts no frame short opens a new period (R1). -/
theorem Part.strobe_whole (p : Part) (now : LineTime) (h : p.scan.period = none ∨ p.scan.received.length = 49) :
    p.strobe now = { p with scan := { p.scan with period := some now, received := [] } } := by
  unfold Part.strobe
  cases hp : p.scan.period with
  | none => rfl
  | some t =>
    have hl : ¬ p.scan.received.length < 49 := by
      rcases h with h | h
      · exact absurd (hp.symm.trans h) (by simp)
      · omega
    simp only [if_neg hl]

@[simp] theorem Part.ticked_scan (p : Part) : p.ticked.scan = p.scan := by rw [Part.ticked_eq]

/-- A tick that cuts no scan frame short. -/
theorem Part.tickCore_whole (p : Part) (h : p.scan.period = none ∨ p.scan.received.length = 49) :
    p.tickCore = { p.ticked with scan := { p.scan with period := some (p.timeBase.lineTime + 1), received := [] } } := by
  rw [Part.tickCore_eq, Part.strobe_whole _ _ (by rw [Part.ticked_scan]; exact h), Part.ticked_scan]

/-- The watchdog's count starts at the first oscillator mark after it was started (R180). -/
def TimeBase.marked (t : TimeBase) : TimeBase := { t with watchdog := t.watchdog.map (fun _ => 1) }

theorem Part.markWatchdog_first (p : Part) (hw : p.timeBase.watchdog = none ∨ p.timeBase.watchdog = some 0) :
    p.markWatchdog = p.setTimeBase TimeBase.marked := by
  rcases hw with h | h
  · simp only [Part.markWatchdog, Part.setTimeBase, TimeBase.marked, h, Option.map_none]
    rw [← h]
  · simp only [Part.markWatchdog, Part.setTimeBase, TimeBase.marked, h, Option.map_some]

/-- An oscillator mark outside LOCKED that leaves nothing overdue gives a tick (R181). -/
theorem Part.oscillatorMark_tick (p q : Part) (hm : p.markWatchdog = q) (hs : q.settled) (hc : q.current)
    (hl : q.timeBase.state ≠ .locked) : p.oscillatorMark = q.tickCore := by
  unfold Part.oscillatorMark
  rw [hm, q.settleUrgent_settled hs]
  dsimp only
  split
  · next h => exact absurd h hl
  · rw [Part.tick, q.settleExpiries_current hc]
  · rw [Part.tick, q.settleExpiries_current hc]

/-- The row of an oscillator mark at a ready state outside LOCKED, with nothing overdue (R180, R181). -/
theorem exec_oscillatorMillisecond_tick (s : State) (hr : s.ready) (hc : s.part.current)
    (hl : s.part.timeBase.state ≠ .locked)
    (hw : s.part.timeBase.watchdog = none ∨ s.part.timeBase.watchdog = some 0) :
    exec .oscillatorMillisecond s = .next (s.withPart (s.part.setTimeBase TimeBase.marked).tickCore) := by
  have h := s.part.oscillatorMark_tick _ (s.part.markWatchdog_first hw) hr.2 hc hl
  change Host.Outcome.next (s.onPart (fun p => p.settleUrgent.oscillatorMark)) = _
  rw [State.onPart_working s _ hr.1, s.part.settleUrgent_settled hr.2, h]
  rfl

/-- Settles O50, from the tick of a link, what stands before the strobe, and a strobe that cuts no frame short. -/
theorem oscillatorMarkGivesATick : Obligations.OscillatorMarkGivesATick := by
  unfold Obligations.OscillatorMarkGivesATick
  refine ⟨fun k => ⟨k.tick_breaking, fun hk => ⟨fun kind chars n ha => ?_, fun ha => ?_⟩⟩, ?_⟩
  · rw [k.tick_not_breaking hk, ha]
    rfl
  · rw [k.tick_not_breaking hk]
    rcases ha with ha | ha <;> simp only [ha, Assembler.tick]
  · intro s t hr hc hl hw hp ht
    subst ht
    rw [exec_oscillatorMillisecond_tick s hr hc hl hw, Part.tickCore_whole (s.part.setTimeBase _) hp,
      Part.ticked_eq, Bool.decide_and]
    rfl

end Sys2Proof.Machine
end

section
/-!
SUPPORT. A step taken for each line in ascending order (assumption log 7): what the whole leaves at one line, read off the
step of that line alone.
-/
namespace Sys2Proof.Machine

/-- Every line is taken once: the lines before it, the line, and the lines after it. -/
theorem allLines_split (l : LineId) : ∃ before after, allLines = before ++ l :: after ∧ l ∉ before ∧ l ∉ after := by
  obtain ⟨before, after, h⟩ := List.append_of_mem (List.mem_finRange l)
  have hn : (before ++ l :: after).Nodup := h ▸ List.nodup_finRange 48
  have hl := (List.nodup_cons.1 (List.nodup_middle.1 hn)).1
  exact ⟨before, after, h, fun k => hl (List.mem_append_left _ k), fun k => hl (List.mem_append_right _ k)⟩

/-- Steps of other lines that keep `I` and what is read at `l` do so in a row. -/
theorem foldl_others_keep {α : Type} (read : Line → α) (I : Part → Prop) (f : LineId → Part → Part) (l : LineId)
    (hI : ∀ m p, I p → I (f m p)) (hne : ∀ m p, I p → l ≠ m → read ((f m p).line l) = read (p.line l))
    (xs : List LineId) (hx : l ∉ xs) (p : Part) (h : I p) :
    I (xs.foldl (fun p m => f m p) p) ∧ read ((xs.foldl (fun p m => f m p) p).line l) = read (p.line l) := by
  induction xs generalizing p with
  | nil => exact ⟨h, rfl⟩
  | cons m xs ih =>
    simp only [List.mem_cons, not_or] at hx
    obtain ⟨hm, hxs⟩ := hx
    obtain ⟨h1, h2⟩ := ih hxs (f m p) (hI m p h)
    exact ⟨h1, h2.trans (hne m p h hm)⟩

/-- What is read at a line after a step for each line is what the step of that line alone leaves there, taken from a part
that reads the same at that line and that keeps what every step keeps. -/
theorem Part.forLines_reads {α : Type} (read : Line → α) (I : Part → Prop) (f : LineId → Part → Part)
    (hI : ∀ m p, I p → I (f m p)) (hne : ∀ l m p, I p → l ≠ m → read ((f m p).line l) = read (p.line l))
    (p : Part) (h : I p) (l : LineId) :
    ∃ q, I q ∧ read (q.line l) = read (p.line l) ∧ read ((p.forLines f).line l) = read ((f l q).line l) := by
  obtain ⟨before, after, he, hb, ha⟩ := allLines_split l
  obtain ⟨hq, hr⟩ := foldl_others_keep read I f l hI (hne l) before hb p h
  obtain ⟨_, ht⟩ := foldl_others_keep read I f l hI (hne l) after ha _ (hI l _ hq)
  refine ⟨_, hq, hr, ?_⟩
  rw [Part.forLines, he, List.foldl_append, List.foldl_cons]
  exact ht

/-- Where every other line's step leaves the part alone, before and after, the whole is the step of one line. -/
theorem Part.forLines_single (p : Part) (f : LineId → Part → Part) (l : LineId) (hb : ∀ m, m ≠ l → f m p = p)
    (ha : ∀ m, m ≠ l → f m (f l p) = f l p) : p.forLines f = f l p := by
  obtain ⟨before, after, he, hnb, hna⟩ := allLines_split l
  rw [Part.forLines, he, List.foldl_append, List.foldl_cons,
    foldl_fixed _ p before (fun m hm => hb m (fun e => hnb (e ▸ hm))),
    foldl_fixed _ _ after (fun m hm => ha m (fun e => hna (e ▸ hm)))]

end Sys2Proof.Machine
end

section
/-!
SUPPORT. The judgement of a scan frame (R2), and the row that brings one whole.
-/
namespace Sys2Proof.Machine

/-- The 8-bit sum of bytes is their sum modulo 256. -/
theorem sumOf_toNat (bs : List Byte) : (sumOf bs).toNat = (bs.map BitVec.toNat).sum % 256 := by
  induction bs with
  | nil => rfl
  | cons b bs ih =>
    rw [sumOf_cons, BitVec.toNat_add, ih, List.map_cons, List.sum_cons]
    omega

/-- A frame of 49 bytes is good if its 48 sample bytes have their top bit clear and all bytes sum to 0 modulo 256 (R2). -/
theorem frameGood_iff (bs : List Byte) (h : bs.length = 49) :
    frameGood bs = true ↔ (∀ l : LineId, (bs.getD l.val 0).toNat < 128) ∧ (bs.map BitVec.toNat).sum % 256 = 0 := by
  have hs : sumOf bs = 0 ↔ (bs.map BitVec.toNat).sum % 256 = 0 := by
    rw [← sumOf_toNat, ← BitVec.toNat_inj]
    rfl
  have hb : (∀ b ∈ bs.take 48, b.toNat < 128) ↔ ∀ l : LineId, (bs.getD l.val 0).toNat < 128 := by
    constructor
    · intro k l
      rw [List.getD_eq_getElem _ _ (by omega)]
      exact k _ (List.mem_take_iff_getElem.2 ⟨l.val, by omega, rfl⟩)
    · intro k b hb
      obtain ⟨i, hi, rfl⟩ := List.mem_take_iff_getElem.1 hb
      have := k ⟨i, by omega⟩
      rwa [List.getD_eq_getElem _ _ (by omega)] at this
  simp only [frameGood, Bool.and_eq_true, List.all_eq_true, decide_eq_true_eq, hs, hb]

theorem heldOf_get (bs : List Byte) (l : LineId) : (heldOf bs).get l = bs.getD l.val 0 := Laws.get_ofFn _ l

/-- The part with the bytes of its period's frame received. -/
def Part.withReceived (p : Part) (bs : List Byte) : Part := { p with scan := { p.scan with received := bs } }

/-- Where the first byte of the period is still to come, a row of 49 bytes brings the whole frame, which is judged (R2). -/
theorem Part.takeScanBytes_whole (p : Part) (bs : List Byte) (now : LineTime) (hp : p.scan.period = some now)
    (hr : p.scan.received = []) (hl : bs.length = 49) : p.takeScanBytes bs = (p.withReceived bs).judgeFrame bs now := by
  have ht : bs.take 49 = bs := List.take_of_length_le (by omega)
  simp only [Part.takeScanBytes, Part.withReceived, hp, hr, List.nil_append, ht, List.length_nil, hl]
  rw [if_pos ⟨by decide, trivial⟩]

theorem exec_scanFrame_whole (s : State) (bs : List Byte) (now : LineTime) (h : s.ready)
    (hp : s.part.scan.period = some now) (hr : s.part.scan.received = []) (hl : bs.length = 49) :
    exec (.scanFrame bs) s = .next (s.withPart ((s.part.withReceived bs).judgeFrame bs now)) := by
  change Host.Outcome.next (s.onPart (fun p => p.settleUrgent.takeScanBytes bs)) = _
  rw [State.onPart_working s _ h.1, s.part.settleUrgent_settled h.2, s.part.takeScanBytes_whole bs now hp hr hl]
  rfl

/-- The part with the samples of a good frame held, the scan RUNNING (R2, R6). -/
def Part.withHeld (p : Part) (bs : List Byte) : Part :=
  { p with scan := { p.scan with state := .running, misses := 0, held := heldOf bs } }

theorem Part.judgeFrame_good_running (p : Part) (bs : List Byte) (now : LineTime) (hg : frameGood bs = true)
    (h : p.scan.state = .running) : p.judgeFrame bs now = (p.withHeld bs).handHeld now := by
  simp only [Part.judgeFrame, if_pos hg, h]
  rfl

theorem Part.judgeFrame_good_lost (p : Part) (bs : List Byte) (now : LineTime) (hg : frameGood bs = true)
    (h : p.scan.state = .lost) : p.judgeFrame bs now = (p.withHeld bs).restoreScan now := by
  simp only [Part.judgeFrame, if_pos hg, h]
  rfl

theorem Part.judgeFrame_bad (p : Part) (bs : List Byte) (now : LineTime) (hg : ¬ frameGood bs = true) :
    p.judgeFrame bs now = p.scanMiss now := by
  simp only [Part.judgeFrame, if_neg hg]

/-- A miss in LOST changes nothing (R5). -/
theorem Part.scanMiss_lost (p : Part) (now : LineTime) (h : p.scan.state = .lost) : p.scanMiss now = p := by
  simp only [Part.scanMiss, h]

/-- One of the first seven misses hands the held samples (R3). -/
theorem Part.scanMiss_early (p : Part) (now : LineTime) (h : p.scan.state = .running) (hm : p.scan.misses < 7) :
    p.scanMiss now = ({ p with scan := { p.scan with misses := p.scan.misses + 1 } } : Part).handHeld now := by
  simp only [Part.scanMiss, h]
  rw [if_pos (by omega)]

/-- The eighth miss loses the scan (R4). -/
theorem Part.scanMiss_eighth (p : Part) (now : LineTime) (h : p.scan.state = .running) (hm : 7 ≤ p.scan.misses) :
    p.scanMiss now = p.loseScan := by
  simp only [Part.scanMiss, h]
  rw [if_neg (by omega)]

end Sys2Proof.Machine
end

section
/-!
PROOF. The loss of the scan (R4, R5): every line's step of the eighth miss, and the eighth miss as one write of all lines.
-/
namespace Sys2Proof.Machine

/-! ### Steps that write their line and queue a report -/

theorem Part.setLine_line (p : Part) (l : LineId) : p.setLine l (p.line l) = p := by
  have h : p.lines.set l.val (p.line l) l.isLt = p.lines := Vector.set_getElem_self _
  simp only [Part.setLine, h]

/-- A report for both links where there is one. -/
def Part.reportIf (p : Part) (b : Option ReportBody) : Part := b.elim p p.reportBoth

/-- The part with other line records. -/
def Part.withLines (p : Part) (v : Vector Line 48) : Part := { p with lines := v }

@[simp] theorem Part.withLines_timeBase (p : Part) (v : Vector Line 48) : (p.withLines v).timeBase = p.timeBase := rfl
@[simp] theorem Part.withLines_scan (p : Part) (v : Vector Line 48) : (p.withLines v).scan = p.scan := rfl
@[simp] theorem Part.line_withLines (p : Part) (v : Vector Line 48) (l : LineId) : (p.withLines v).line l = v.get l := rfl

theorem Part.foldl_reportBoth_withLines (bs : List ReportBody) (p : Part) (v : Vector Line 48) :
    bs.foldl Part.reportBoth (p.withLines v) = (bs.foldl Part.reportBoth p).withLines v := by
  induction bs generalizing p with
  | nil => rfl
  | cons b bs ih => exact ih (p.reportBoth b)

/-- Steps that each queue at most one report and write their own line, by the record it had, are the reports in the
order of the lines and one write of all those lines. -/
theorem Part.foldl_reports_and_writes (f : LineId → Part → Part) (said : LineId → Line → Option ReportBody)
    (left : LineId → Line → Line) (I : Part → Prop) (hI : ∀ l q, I q → I (f l q))
    (hf : ∀ l q, I q → f l q = (q.reportIf (said l (q.line l))).setLine l (left l (q.line l)))
    (xs : List LineId) (hx : xs.Nodup) (p : Part) (hp : I p) :
    xs.foldl (fun p l => f l p) p = ((xs.filterMap (fun l => said l (p.line l))).foldl Part.reportBoth p).withLines
      (Vector.ofFn (fun l => if l ∈ xs then left l (p.line l) else p.line l)) := by
  induction xs generalizing p with
  | nil =>
    have hv : Vector.ofFn (fun l => p.line l) = p.lines :=
      Laws.ext_get _ _ (fun l => Laws.get_ofFn (fun l => p.line l) l)
    simp only [List.foldl_nil, List.filterMap_nil, List.not_mem_nil, if_false, hv]
    rfl
  | cons m xs ih =>
    obtain ⟨hm, hxs⟩ := List.nodup_cons.1 hx
    have hline : ∀ l, (f m p).line l = if l = m then left m (p.line m) else p.line l := by
      intro l
      rw [hf m p hp]
      split
      · next e => rw [e, Part.line_setLine_self]
      · next e =>
        rw [Part.line_setLine_ne _ _ _ _ e, Part.reportIf]
        cases said m (p.line m)
        · rfl
        · exact p.line_reportBoth _ l
    have hsaid : xs.filterMap (fun l => said l ((f m p).line l)) = xs.filterMap (fun l => said l (p.line l)) := by
      refine List.filterMap_congr (fun l hl => ?_)
      rw [hline l, if_neg (fun e : l = m => hm (e ▸ hl))]
    have hlines : (fun l => if l ∈ xs then left l ((f m p).line l) else (f m p).line l)
        = fun l => if l ∈ m :: xs then left l (p.line l) else p.line l := by
      funext l
      rw [hline l]
      by_cases e : l = m
      · subst e
        simp [hm]
      · simp [e]
    have hrest : ∀ (bs : List ReportBody) v, (bs.foldl Part.reportBoth (f m p)).withLines v
        = (bs.foldl Part.reportBoth (p.reportIf (said m (p.line m)))).withLines v := by
      intro bs v
      have e : f m p = (p.reportIf (said m (p.line m))).withLines (f m p).lines := by rw [hf m p hp]; rfl
      conv => lhs; rw [e, Part.foldl_reportBoth_withLines]
      rfl
    rw [List.foldl_cons, ih hxs _ (hI m p hp), hsaid, hlines, hrest]
    cases h : said m (p.line m) with
    | none => simp only [List.filterMap_cons, h, Part.reportIf, Option.elim_none]
    | some b => simp only [List.filterMap_cons, h, Part.reportIf, Option.elim_some, List.foldl_cons]

theorem Part.forLines_reports_and_writes (f : LineId → Part → Part) (said : LineId → Line → Option ReportBody)
    (left : LineId → Line → Line) (I : Part → Prop) (hI : ∀ l q, I q → I (f l q))
    (hf : ∀ l q, I q → f l q = (q.reportIf (said l (q.line l))).setLine l (left l (q.line l))) (p : Part) (hp : I p) :
    p.forLines f = ((allLines.filterMap (fun l => said l (p.line l))).foldl Part.reportBoth p).withLines
      (Vector.ofFn (fun l => left l (p.line l))) := by
  rw [Part.forLines, Part.foldl_reports_and_writes f said left I hI hf allLines (List.nodup_finRange 48) p hp]
  simp only [allLines, List.mem_finRange, if_true]

/-! ### The loss at one line -/

/-- The DIGIT ERROR of a line at the loss of the scan: of an enabled line with a digit in progress (R4). -/
def lossReport (l : LineId) (x : Line) : Option ReportBody :=
  match x.state, x.decoder.digit with
  | .disabled, _ => none
  | _, none => none
  | _, some g => some (.digitError l .scan g.count g.convention)

/-- The record of a line after the loss of the scan (R4). -/
def Line.afterLoss (x : Line) (r : Profile) : Line :=
  if x.state ≠ .disabled ∧ x.decoder.digit ≠ none then
    { x with
      timer := x.classTimer .partialDial r.partialTime
      decoder := { x.decoder with digit := none, pendingBreak := none } }
  else x

theorem Line.afterLoss_kept (x : Line) (r : Profile) :
    (x.afterLoss r).slicer = x.slicer ∧ (x.afterLoss r).decoder.run = x.decoder.run ∧ (x.afterLoss r).state = x.state := by
  unfold Line.afterLoss
  split <;> exact ⟨rfl, rfl, rfl⟩

/-- An enabled line has no digit after the loss. -/
theorem Line.afterLoss_digit (x : Line) (r : Profile) (h : x.state ≠ .disabled) :
    (x.afterLoss r).decoder.digit = none := by
  unfold Line.afterLoss
  split
  · rfl
  · next k => exact Classical.not_not.1 (fun hd => k ⟨h, hd⟩)

theorem Part.loseLine_eq (p : Part) (l : LineId) :
    p.loseLine l = (p.reportIf (lossReport l (p.line l))).setLine l ((p.line l).afterLoss (p.profileOfLine l)) := by
  cases hd : (p.line l).decoder.digit with
  | none =>
    have h1 : p.loseLine l = p := by unfold Part.loseLine; rw [hd]; cases (p.line l).state <;> rfl
    have h2 : lossReport l (p.line l) = none := by unfold lossReport; rw [hd]; cases (p.line l).state <;> rfl
    rw [h1, h2, Line.afterLoss, if_neg (fun k => k.2 hd)]
    exact (p.setLine_line l).symm
  | some g =>
    by_cases hs : (p.line l).state = .disabled
    · have h1 : p.loseLine l = p := by unfold Part.loseLine; rw [hs]
      have h2 : lossReport l (p.line l) = none := by unfold lossReport; rw [hs]
      rw [h1, h2, Line.afterLoss, if_neg (fun k => k.1 hs)]
      exact (p.setLine_line l).symm
    · have h1 : p.loseLine l = ((p.dropDigit l).digitErrorReport l .scan g).startTimer l .partialDial := by
        unfold Part.loseLine
        rw [hd]
        cases h : (p.line l).state
        case disabled => exact absurd h hs
        all_goals rfl
      have h2 : lossReport l (p.line l) = some (.digitError l .scan g.count g.convention) := by
        unfold lossReport
        rw [hd]
        cases h : (p.line l).state
        case disabled => exact absurd h hs
        all_goals rfl
      rw [h1, h2, Line.afterLoss, if_pos ⟨hs, by simp [hd]⟩]
      refine ((p.reportBoth _).startTimer_setLine l _ .partialDial ?_).trans ?_
      · rfl
      · rfl

/-! ### The eighth miss -/

/-- The eighth miss: SCAN, the DIGIT ERRORs in line order, and every line as the loss leaves it (R4, assumption log 7). -/
theorem Part.loseScan_eq (p : Part) :
    p.loseScan = ((allLines.filterMap (fun l => lossReport l (p.line l))).foldl Part.reportBoth
      (({ p with scan := { p.scan with state := .lost, misses := 8 } } : Part).reportBoth (.scan .lost))).withLines
        (Vector.ofFn (fun l => (p.line l).afterLoss (p.profileOfLine l))) := by
  have h := Part.forLines_reports_and_writes (fun l q => q.loseLine l) lossReport
    (fun _ x => x.afterLoss (p.profile x.profile)) (fun q => q.profiles = p.profiles)
    (fun l q hq => ?_) (fun l q hq => ?_)
    (({ p with scan := { p.scan with state := .lost, misses := 8 } } : Part).reportBoth (.scan .lost)) rfl
  · exact h
  · rw [Part.loseLine_eq, Part.setLine_profiles, Part.reportIf]
    cases lossReport l (q.line l) <;> simp [hq]
  · rw [Part.loseLine_eq, Part.profileOfLine, Part.profile, hq]
    rfl

/-- Reports change nothing but the links. -/
theorem Part.foldl_reportBoth_keeps {α : Type} (read : Part → α) (hr : ∀ p b, read (p.reportBoth b) = read p)
    (bs : List ReportBody) (p : Part) : read (bs.foldl Part.reportBoth p) = read p :=
  foldl_keeps (fun q => read q = read p) _ (fun q b h => (hr q b).trans h) bs p rfl

theorem Part.loseScan_timeBase (p : Part) : p.loseScan.timeBase = p.timeBase := by
  rw [Part.loseScan_eq, Part.withLines_timeBase, Part.foldl_reportBoth_keeps Part.timeBase Part.reportBoth_timeBase,
    Part.reportBoth_timeBase]

theorem Part.loseScan_scan (p : Part) : p.loseScan.scan = { p.scan with state := .lost, misses := 8 } := by
  rw [Part.loseScan_eq, Part.withLines_scan, Part.foldl_reportBoth_keeps Part.scan Part.reportBoth_scan,
    Part.reportBoth_scan]

theorem Part.loseScan_line (p : Part) (l : LineId) :
    p.loseScan.line l = (p.line l).afterLoss (p.profileOfLine l) := by
  rw [Part.loseScan_eq, Part.line_withLines, Laws.get_ofFn]

/-- Reports do not look at the scan. -/
theorem Part.foldl_reportBoth_withScan (bs : List ReportBody) (p : Part) (c : Scan) :
    bs.foldl Part.reportBoth { p with scan := c } = { bs.foldl Part.reportBoth p with scan := c } := by
  induction bs generalizing p with
  | nil => rfl
  | cons b bs ih => exact ih (p.reportBoth b)

/-- Settles O10. -/
theorem eighthMissLosesTheScan : Obligations.EighthMissLosesTheScan := by
  unfold Obligations.EighthMissLosesTheScan
  intro s bytes now hr hp hrec hlen hbad
  have hg : ¬ frameGood bytes = true := by
    rw [frameGood_iff bytes hlen]
    rintro ⟨h1, h2⟩
    rcases hbad with ⟨l, hl⟩ | hs
    · have := h1 l
      omega
    · exact hs h2
  rw [exec_scanFrame_whole s bytes now hr hp hrec hlen, Part.judgeFrame_bad _ _ _ hg]
  refine ⟨fun hrun hm => ?_, fun hlost => ?_⟩
  · rw [Part.scanMiss_eighth (s.part.withReceived bytes) _ hrun hm.ge, Part.loseScan_eq]
    have e : (({ s.part.withReceived bytes with
        scan := { (s.part.withReceived bytes).scan with state := .lost, misses := 8 } } : Part).reportBoth (.scan .lost))
        = { s.part.reportBoth (.scan .lost) with
            scan := { s.part.scan with state := .lost, misses := 8, received := bytes } } := rfl
    rw [e, Part.foldl_reportBoth_withScan]
    rfl
  · rw [Part.scanMiss_lost (s.part.withReceived bytes) _ hlost]
    rfl

end Sys2Proof.Machine
end

section
/-!
SUPPORT. Steps that leave every other line alone: what a step of a scan frame does to the part beside its own line.
-/
namespace Sys2Proof.Machine

/-- Two parts that differ at most in their lines, the state of the links' report queues and nothing else; a queue of
reports has grown at most at its tail. -/
structure Part.sameButLines (p q : Part) : Prop where
  timeBase : q.timeBase = p.timeBase
  scan : q.scan = p.scan
  traceSlots : q.traceSlots = p.traceSlots
  free : q.free = p.free
  grantQueue : q.grantQueue = p.grantQueue
  senders : q.senders = p.senders
  profiles : q.profiles = p.profiles
  conventions : q.conventions = p.conventions
  globals : q.globals = p.globals
  reports : ∀ lk, (p.link lk).queue <+: (q.link lk).queue

theorem Part.sameButLines_refl (p : Part) : p.sameButLines p :=
  ⟨rfl, rfl, rfl, rfl, rfl, rfl, rfl, rfl, rfl, fun _ => List.prefix_refl _⟩

theorem Part.sameButLines_trans {p q r : Part} (h : p.sameButLines q) (k : q.sameButLines r) : p.sameButLines r :=
  ⟨k.timeBase.trans h.timeBase, k.scan.trans h.scan, k.traceSlots.trans h.traceSlots, k.free.trans h.free,
    k.grantQueue.trans h.grantQueue, k.senders.trans h.senders, k.profiles.trans h.profiles,
    k.conventions.trans h.conventions, k.globals.trans h.globals, fun lk => (h.reports lk).trans (k.reports lk)⟩

/-- A report that reaches a link leaves what is queued there in place (R163). -/
theorem Link.push_prefix (k : Link) (r : Report) : k.queue <+: (k.push r).queue := by
  rcases k.push_cases r with ⟨_, h⟩ | ⟨_, _, h⟩ | ⟨_, _, h⟩ <;> rw [h]
  · exact List.prefix_append _ _

/-- Two parts that differ at most at one line and in the reports queued. -/
structure Part.sameButLine (p : Part) (l : LineId) (q : Part) : Prop where
  rest : p.sameButLines q
  others : ∀ m, m ≠ l → q.line m = p.line m

theorem Part.sameButLine_refl (p : Part) (l : LineId) : p.sameButLine l p := ⟨p.sameButLines_refl, fun _ _ => rfl⟩

theorem Part.sameButLine_trans {p q r : Part} {l : LineId} (h : p.sameButLine l q) (k : q.sameButLine l r) :
    p.sameButLine l r :=
  ⟨Part.sameButLines_trans h.rest k.rest, fun m e => (k.others m e).trans (h.others m e)⟩

theorem Part.sameButLine_setLine (p : Part) (l : LineId) (x : Line) : p.sameButLine l (p.setLine l x) :=
  ⟨⟨rfl, rfl, rfl, rfl, rfl, rfl, rfl, rfl, rfl, fun lk => by rw [Part.link_setLine]⟩,
    fun m e => p.line_setLine_ne l m x e⟩

theorem Part.sameButLine_reportBoth (p : Part) (l : LineId) (b : ReportBody) : p.sameButLine l (p.reportBoth b) :=
  ⟨⟨rfl, rfl, rfl, rfl, rfl, rfl, rfl, rfl, rfl, fun lk => by rw [Part.reportBoth_link]; exact Link.push_prefix _ _⟩,
    fun m _ => p.line_reportBoth b m⟩

theorem Part.sameButLine_traceReport (p : Part) (l m : LineId) (a : Loop) (n : Nat) (v : Verdict) :
    p.sameButLine l (p.traceReport m a n v) := by
  unfold Part.traceReport
  split
  · exact p.sameButLine_reportBoth l _
  · exact p.sameButLine_refl l

/-- A line that differs at most in itself reads the same profile, if it keeps its number. -/
theorem Part.sameButLines_profileOfLine {p q : Part} (h : p.sameButLines q) (l : LineId)
    (hl : (q.line l).profile = (p.line l).profile) : q.profileOfLine l = p.profileOfLine l := by
  simp only [Part.profileOfLine, Part.profile, h.profiles, hl]

/-! ### Lines that hold nothing -/

/-- The line holds no cell, no sender and no place in the grant queue (R59). -/
def Part.vacant (p : Part) (l : LineId) : Prop :=
  (p.line l).queue = [] ∧ (p.line l).sender = none ∧ l ∉ p.grantQueue

/-- Lines outside ACTIVE are vacant (R59). -/
def Part.vacantOutsideActive (p : Part) : Prop := ∀ l, (p.line l).state ≠ .active → p.vacant l

theorem Part.vacantOutsideActive_of_kept {p : Part} (h : p.supervisionKept) : p.vacantOutsideActive := h.1

/-- A step of one line that keeps its holdings, and does not bring it out of ACTIVE, keeps lines outside ACTIVE vacant. -/
theorem Part.vacantOutsideActive_step {p q : Part} {l : LineId} (h : p.vacantOutsideActive) (k : p.sameButLine l q)
    (hq : (q.line l).queue = (p.line l).queue) (hs : (q.line l).sender = (p.line l).sender)
    (ha : (p.line l).state = .active → (q.line l).state = .active) : q.vacantOutsideActive := by
  intro m hm
  by_cases e : m = l
  · subst e
    obtain ⟨h1, h2, h3⟩ := h m (fun hp => hm (ha hp))
    exact ⟨hq.trans h1, hs.trans h2, by rwa [k.rest.grantQueue]⟩
  · rw [k.others m e] at hm
    obtain ⟨h1, h2, h3⟩ := h m hm
    exact ⟨by rwa [k.others m e], by rwa [k.others m e], by rwa [k.rest.grantQueue]⟩

/-- The steps of R59 at a vacant line touch that line alone and flush nothing. -/
theorem Part.leaveFor_vacant (p : Part) (l : LineId) (st : LineState) (c : LineCause) (lk : Option LinkId)
    (k : TimerKind) (ht : st.timer = some k) (hs : k ≠ .seize) (hv : p.vacant l) :
    p.leaveFor l st c lk = (p.setLine l { p.line l with
        state := st
        timer := some ⟨k, timerLength k (p.line l) (p.profileOfLine l)⟩
        decoder := (p.line l).decoder.cleared st }).reportBoth
      (.lineState l st (p.line l).state (p.line l).gate c lk 0) := by
  obtain ⟨hq, hn, hg⟩ := hv
  have ha : p.abandoned l = p.setLine l { p.line l with
      timer := none
      decoder := { (p.line l).decoder with digit := none, pendingBreak := none } } := by
    simp only [Part.abandoned, Part.abort, Part.line_setLine_self, hn]
  have hgq : p.grantQueue.filter (fun m => decide (m ≠ l)) = p.grantQueue := by
    refine List.filter_eq_self.2 (fun m hm => ?_)
    simp only [ne_eq, decide_not, Bool.not_eq_eq_eq_not, Bool.not_true, decide_eq_false_iff_not]
    exact fun e => hg (e ▸ hm)
  rw [p.leaveFor_timed l st c lk k ht hs, ha]
  simp only [Part.afterLeaving, Part.line_setLine_self, Part.setLine_setLine, Part.setLine_grantQueue, hgq,
    Part.setLine_free, hq, List.length_nil, Nat.add_zero]
  rfl

end Sys2Proof.Machine
end

section
/-!
SUPPORT. What one sample leaves of its line (R6, R9 to R12, R21, R24, R51 to R57, R64), as a function of the record and of
the profile, and that it touches nothing else but the report queues.
-/
namespace Sys2Proof.Machine

/-! ### The supervisor's part in a transition -/

/-- The SETTLE timer at its full length (R49). -/
def Profile.settleTimer (r : Profile) : Option Timer := some ⟨.settle, r.settleTime * 1000⟩

/-- The record of a line after the supervisor took a debounced transition (R51, R52, R54, R55, R57, R64). -/
def Line.supervised (x : Line) (r : Profile) (new : Loop) : Line :=
  match x.state, new with
  | .idle, .closed => { x.entered .seizing with timer := some ⟨.seize, r.seizeTime - x.decoder.run.duration⟩ }
  | .seizing, .open =>
    if r.flapLimit ≤ flapRise x.flaps then
      { x with
        flaps := flapRise x.flaps
        state := .quarantine
        timer := r.settleTimer
        decoder := x.decoder.cleared .quarantine }
    else { x.entered .idle with flaps := flapRise x.flaps, timer := some ⟨.rest, 30000⟩ }
  | .active, .open => { x with pulseDialled := true }
  | .quarantine, _ => { x with timer := r.settleTimer }
  | _, _ => x

/-- A step of a line: it leaves the record `y` there, and touches nothing else but the report queues. -/
def Part.leavesAt (p : Part) (l : LineId) (y : Line) (q : Part) : Prop := p.sameButLine l q ∧ q.line l = y

theorem Part.leavesAt_refl (p : Part) (l : LineId) : p.leavesAt l (p.line l) p := ⟨p.sameButLine_refl l, rfl⟩

section
variable {p q : Part} {l : LineId} {y : Line}

theorem Part.leavesAt_setLine (h : p.leavesAt l y q) (z : Line) : p.leavesAt l z (q.setLine l z) :=
  ⟨Part.sameButLine_trans h.1 (q.sameButLine_setLine l z), q.line_setLine_self l z⟩

theorem Part.leavesAt_updLine (h : p.leavesAt l y q) (f : Line → Line) : p.leavesAt l (f y) (q.updLine l f) := by
  unfold Part.updLine
  rw [h.2]
  exact Part.leavesAt_setLine h _

theorem Part.leavesAt_reportBoth (h : p.leavesAt l y q) (b : ReportBody) : p.leavesAt l y (q.reportBoth b) :=
  ⟨Part.sameButLine_trans h.1 (q.sameButLine_reportBoth l b), (q.line_reportBoth b l).trans h.2⟩

theorem Part.leavesAt_traceReport (h : p.leavesAt l y q) (a : Loop) (n : Nat) (v : Verdict) :
    p.leavesAt l y (q.traceReport l a n v) :=
  ⟨Part.sameButLine_trans h.1 (q.sameButLine_traceReport l l a n v), (q.line_traceReport l a n v l).trans h.2⟩

/-- A line that keeps its profile number reads the same profile. -/
theorem Part.leavesAt_profile (h : p.leavesAt l y q) (hy : y.profile = (p.line l).profile) :
    q.profileOfLine l = p.profileOfLine l := Part.sameButLines_profileOfLine h.1.rest l (by rw [h.2, hy])

/-- A vacant line stays vacant where its record keeps the queue and the sender. -/
theorem Part.leavesAt_vacant (h : p.leavesAt l y q) (hq : y.queue = (p.line l).queue) (hs : y.sender = (p.line l).sender)
    (hv : p.vacant l) : q.vacant l := by
  obtain ⟨h1, h2, h3⟩ := hv
  unfold Part.vacant
  rw [h.2, h.1.rest.grantQueue]
  exact ⟨hq.trans h1, hs.trans h2, h3⟩

end

theorem Part.leavesAt_trans {p q r : Part} {l : LineId} {y z : Line} (h : p.leavesAt l y q) (k : q.leavesAt l z r) :
    p.leavesAt l z r := ⟨Part.sameButLine_trans h.1 k.1, k.2⟩

/-- An abandoned seizure at a vacant line (R54, R55). -/
theorem Part.abandonSeizure_leaves (p : Part) (l : LineId) (hs : (p.line l).state = .seizing) (hv : p.vacant l) :
    p.leavesAt l ((p.line l).supervised (p.profileOfLine l) .open) (p.abandonSeizure l) := by
  have hr := Part.leavesAt_updLine (p.leavesAt_refl l) (fun x => { x with flaps := flapRise x.flaps })
  change p.leavesAt l _ (p.raiseFlaps l) at hr
  have hprof := Part.leavesAt_profile hr rfl
  have hw := Part.leavesAt_vacant hr rfl rfl hv
  have hx : (p.line l).supervised (p.profileOfLine l) .open = if p.flapsOut l then
      { p.line l with
        flaps := flapRise (p.line l).flaps
        state := .quarantine
        timer := (p.profileOfLine l).settleTimer
        decoder := (p.line l).decoder.cleared .quarantine }
      else { (p.line l).entered .idle with flaps := flapRise (p.line l).flaps, timer := some ⟨.rest, 30000⟩ } := by
    simp only [Line.supervised, hs, Part.flapsOut, decide_eq_true_eq]
  rw [hx]
  unfold Part.abandonSeizure
  split
  · rw [Part.quarantine, (p.raiseFlaps l).leaveFor_vacant l .quarantine .flap none .settle rfl (by decide) hw, hr.2, hprof]
    exact Part.leavesAt_reportBoth (Part.leavesAt_setLine hr _) _
  · rw [(p.raiseFlaps l).enterWithTimer_timed l .idle .rest rfl, hr.2]
    exact Part.leavesAt_setLine hr _

theorem Part.superviseTransition_leaves (p : Part) (l : LineId) (new : Loop)
    (hv : (p.line l).state ≠ .active → p.vacant l) :
    p.leavesAt l ((p.line l).supervised (p.profileOfLine l) new) (p.superviseTransition l new) := by
  have hid : p.leavesAt l (p.line l) p := p.leavesAt_refl l
  cases hs : (p.line l).state with
  | idle =>
    match new with
    | .open => simpa only [Part.superviseTransition, Line.supervised, hs] using hid
    | .closed =>
      simp only [Part.superviseTransition, Line.supervised, hs, Part.startSeizing]
      rw [p.enterWithTimer_timed l .seizing .seize rfl]
      exact Part.leavesAt_setLine hid _
  | seizing =>
    match new with
    | .open =>
      simp only [Part.superviseTransition, hs]
      exact p.abandonSeizure_leaves l hs (hv (by rw [hs]; decide))
    | .closed => simpa only [Part.superviseTransition, Line.supervised, hs] using hid
  | active =>
    match new with
    | .open =>
      simp only [Part.superviseTransition, Line.supervised, hs]
      rw [← hs]
      exact Part.leavesAt_updLine hid (fun x => { x with pulseDialled := true })
    | .closed => simpa only [Part.superviseTransition, Line.supervised, hs] using hid
  | quarantine =>
    simp only [Part.superviseTransition, Line.supervised, hs]
    rw [← hs]
    exact Part.leavesAt_setLine hid _
  | disabled => simpa only [Part.superviseTransition, Line.supervised, hs] using hid
  | converse => simpa only [Part.superviseTransition, Line.supervised, hs] using hid
  | parked => simpa only [Part.superviseTransition, Line.supervised, hs] using hid

/-! ### The decoder's part in a sample -/

/-- The run in progress counts a sample (R21). -/
def Decoder.count (d : Decoder) (t : LineTime) : Decoder := { d with run := { d.run with duration := d.run.accumulate t } }

/-- What the end of the run in progress leaves of the decoder, by the line's state (R21, R23, R24). -/
def Decoder.endRun (d : Decoder) (st : LineState) (new : Loop) (t : LineTime) : Decoder :=
  if st = .active ∨ st = .converse then if d.run.confirmed then d.keepEnded new t else d.absorb new t
  else d.replaceRun new t

theorem Part.endRun_leaves (p : Part) (l : LineId) (new : Loop) (t : LineTime) :
    p.leavesAt l ((p.line l).withDecoder (fun d => d.endRun (p.line l).state new t)) (p.endRun l new t) := by
  have hid := p.leavesAt_refl l
  unfold Part.endRun Decoder.endRun Line.withDecoder
  dsimp only
  split
  · split
    · exact Part.leavesAt_updLine hid _
    · exact Part.leavesAt_traceReport (Part.leavesAt_updLine hid _) _ _ _
  · exact Part.leavesAt_updLine hid _

/-! ### Samples -/

/-- The record of a line after a debounced sample (R8 to R11, R21, R42). -/
def Line.sampled (x : Line) (r : Profile) (c : Nat) (t : LineTime) : Line :=
  if x.slicer.completes c then
    ((({ x with
      slicer := x.slicer.take c
      decoder := (x.decoder.endRun x.state x.slicer.debounced.flip (backDate t (x.slicer.candidate + 1))).count t } :
      Line)).supervised r x.slicer.debounced.flip).withDecoder (fun d => { d with tests := .confirmation })
  else { x with slicer := x.slicer.take c, decoder := { x.decoder.count t with tests := .confirmation } }

theorem Part.debouncedSample_leaves (p : Part) (l : LineId) (c : Nat) (t : LineTime)
    (hv : (p.line l).state ≠ .active → p.vacant l) :
    p.leavesAt l ((p.line l).sampled (p.profileOfLine l) c t) (p.debouncedSample l c t) := by
  have h1 := Part.leavesAt_updLine (p.leavesAt_refl l) (fun x => x.withSlicer (fun s => s.take c))
  unfold Part.debouncedSample Line.sampled
  dsimp only
  generalize p.updLine l (fun x => x.withSlicer (fun s => s.take c)) = p1 at h1
  split
  · have h2 := Part.leavesAt_trans h1
      (p1.endRun_leaves l (p.line l).slicer.debounced.flip (backDate t ((p.line l).slicer.candidate + 1)))
    generalize p1.endRun l (p.line l).slicer.debounced.flip (backDate t ((p.line l).slicer.candidate + 1)) = p2 at h2
    rw [h1.2] at h2
    have h3 : p.leavesAt l _ (p2.accumulate l t) := Part.leavesAt_updLine h2 (fun x => x.withDecoder (fun d => d.count t))
    generalize p2.accumulate l t = p3 at h3
    have h4 := p3.superviseTransition_leaves l (p.line l).slicer.debounced.flip
      (fun k => Part.leavesAt_vacant h3 rfl rfl (hv (by rwa [h3.2] at k)))
    rw [Part.leavesAt_profile h3 rfl, h3.2] at h4
    exact Part.leavesAt_updLine (Part.leavesAt_trans h3 h4) (fun x => x.withDecoder (fun d => { d with tests := .confirmation }))
  · have h2 : p.leavesAt l _ (p1.accumulate l t) := Part.leavesAt_updLine h1 (fun x => x.withDecoder (fun d => d.count t))
    exact Part.leavesAt_updLine h2 (fun x => x.withDecoder (fun d => { d with tests := .confirmation }))

end Sys2Proof.Machine
end

section
/-!
SUPPORT. The samples of a frame at every line (R2, R3, R6): the record that each line is left with.
-/
namespace Sys2Proof.Machine

/-- The record of a line whose debounced state a sample sets directly: a confirmed run starts with it (R6, R12). -/
def Line.reseeded (x : Line) (c : Nat) (t : LineTime) : Line :=
  { x with
    slicer := x.slicer.takeDirect c
    decoder := { x.decoder with run := ⟨x.slicer.direct c, t, 1, true⟩, ended := none, tests := .made } }

/-- The record of a line after its first sample (R12, R20, R51, R52). -/
def Line.first (x : Line) (r : Profile) (c : Nat) (t : LineTime) : Line :=
  if x.state = .idle ∧ x.slicer.direct c = .closed then
    { (x.reseeded c t).entered .seizing with timer := some ⟨.seize, r.seizeTime - 1⟩ }
  else x.reseeded c t

/-- The record of a line after a sample handed to it (R7). -/
def Line.handed (x : Line) (r : Profile) (c : Nat) (t : LineTime) : Line :=
  if x.state = .disabled then x else if x.slicer.awaitingFirst then x.first r c t else x.sampled r c t

/-- The record of a line after the sample of the frame that restores the scan (R6). -/
def Line.restored (x : Line) (r : Profile) (c : Nat) (t : LineTime) : Line :=
  if x.state = .disabled then x
  else if x.slicer.awaitingFirst then x.first r c t
  else if x.slicer.direct c = x.slicer.debounced then x.reseeded c t
  else (x.reseeded c t).supervised r (x.slicer.direct c)

theorem Part.reseed_leaves (p : Part) (l : LineId) (c : Nat) (t : LineTime) :
    p.leavesAt l ((p.line l).reseeded c t)
      ((p.updLine l (fun x => x.withSlicer (fun s => s.takeDirect c))).startRun l ((p.line l).slicer.direct c) t) :=
  Part.leavesAt_updLine (Part.leavesAt_updLine (p.leavesAt_refl l) (fun x => x.withSlicer (fun s => s.takeDirect c)))
    (fun x => x.withDecoder (fun d =>
      { d with run := ⟨(p.line l).slicer.direct c, t, 1, true⟩, ended := none, tests := .made }))

theorem Part.firstSample_leaves (p : Part) (l : LineId) (c : Nat) (t : LineTime) :
    p.leavesAt l ((p.line l).first (p.profileOfLine l) c t) (p.firstSample l c t) := by
  have h := p.reseed_leaves l c t
  have hst : ((p.line l).reseeded c t).state = (p.line l).state := rfl
  unfold Part.firstSample Line.first
  dsimp only
  generalize (p.updLine l (fun x => x.withSlicer (fun s => s.takeDirect c))).startRun l ((p.line l).slicer.direct c) t = q at h
  have hq : (q.line l).state = (p.line l).state := by rw [h.2, hst]
  by_cases hc : (p.line l).state = .idle ∧ (p.line l).slicer.direct c = .closed
  · simp only [hq, hc.1, hc.2, and_self, if_true, Part.startSeizing]
    rw [q.enterWithTimer_timed l .seizing .seize rfl, Part.leavesAt_profile h rfl, h.2]
    exact Part.leavesAt_setLine h _
  · rw [if_neg hc]
    split
    · next h1 h2 => exact absurd ⟨hq.symm.trans h1, h2⟩ hc
    · exact h

theorem Part.handSample_leaves (p : Part) (l : LineId) (c : Nat) (t : LineTime)
    (hv : (p.line l).state ≠ .active → p.vacant l) :
    p.leavesAt l ((p.line l).handed (p.profileOfLine l) c t) (p.handSample l c t) := by
  unfold Part.handSample Line.handed
  split
  · exact p.leavesAt_refl l
  split
  · exact p.firstSample_leaves l c t
  · exact p.debouncedSample_leaves l c t hv

theorem Part.restoreSample_leaves (p : Part) (l : LineId) (c : Nat) (t : LineTime)
    (hv : (p.line l).state ≠ .active → p.vacant l) :
    p.leavesAt l ((p.line l).restored (p.profileOfLine l) c t) (p.restoreSample l c t) := by
  have h := p.reseed_leaves l c t
  unfold Part.restoreSample Line.restored
  dsimp only
  split
  · exact p.leavesAt_refl l
  split
  · exact p.firstSample_leaves l c t
  generalize (p.updLine l (fun x => x.withSlicer (fun s => s.takeDirect c))).startRun l ((p.line l).slicer.direct c) t = q at h
  split
  · exact h
  · have k := q.superviseTransition_leaves l ((p.line l).slicer.direct c)
      (fun k => Part.leavesAt_vacant h rfl rfl (hv (by rwa [h.2] at k)))
    rw [Part.leavesAt_profile h rfl, h.2] at k
    exact Part.leavesAt_trans h k

/-! ### What a sample keeps of its line's holdings -/

/-- The line keeps its queue and its sender, and is not brought out of ACTIVE. -/
def Line.keepsHoldings (x y : Line) : Prop :=
  y.queue = x.queue ∧ y.sender = x.sender ∧ (x.state = .active → y.state = .active)

theorem Line.supervised_keepsHoldings (x : Line) (r : Profile) (new : Loop) : x.keepsHoldings (x.supervised r new) := by
  cases h : x.state <;> cases new <;> simp only [Line.supervised, h]
  case seizing.open => split <;> exact ⟨rfl, rfl, fun k => absurd (h.symm.trans k) (by decide)⟩
  case idle.closed => exact ⟨rfl, rfl, fun k => absurd (h.symm.trans k) (by decide)⟩
  all_goals exact ⟨rfl, rfl, fun k => h ▸ k⟩

theorem Line.first_keepsHoldings (x : Line) (r : Profile) (c : Nat) (t : LineTime) : x.keepsHoldings (x.first r c t) := by
  unfold Line.first
  split
  · next h => exact ⟨rfl, rfl, fun k => absurd (h.1.symm.trans k) (by decide)⟩
  · exact ⟨rfl, rfl, fun k => k⟩

theorem Line.handed_keepsHoldings (x : Line) (r : Profile) (c : Nat) (t : LineTime) : x.keepsHoldings (x.handed r c t) := by
  unfold Line.handed
  split
  · exact ⟨rfl, rfl, fun k => k⟩
  split
  · exact x.first_keepsHoldings r c t
  · unfold Line.sampled
    split
    · exact Line.supervised_keepsHoldings _ _ _
    · exact ⟨rfl, rfl, fun k => k⟩

theorem Line.restored_keepsHoldings (x : Line) (r : Profile) (c : Nat) (t : LineTime) :
    x.keepsHoldings (x.restored r c t) := by
  unfold Line.restored
  split
  · exact ⟨rfl, rfl, fun k => k⟩
  split
  · exact x.first_keepsHoldings r c t
  split
  · exact ⟨rfl, rfl, fun k => k⟩
  · exact Line.supervised_keepsHoldings _ _ _

/-! ### The whole frame -/

/-- A step for each line that leaves its line a record made from the record and profile it had, and touches nothing else
but the report queues, leaves every line its record. -/
theorem Part.forLines_leaves (p : Part) (f : LineId → Part → Part) (left : LineId → Line → Profile → Line)
    (hk : ∀ l (x : Line) r, x.keepsHoldings (left l x r))
    (hf : ∀ l q, p.sameButLines q → ((q.line l).state ≠ .active → q.vacant l) →
      q.leavesAt l (left l (q.line l) (q.profileOfLine l)) (f l q))
    (hv : p.vacantOutsideActive) :
    p.sameButLines (p.forLines f) ∧ ∀ l, (p.forLines f).line l = left l (p.line l) (p.profileOfLine l) := by
  have hI : ∀ l q, p.sameButLines q ∧ q.vacantOutsideActive → p.sameButLines (f l q) ∧ (f l q).vacantOutsideActive := by
    rintro l q ⟨hq, hw⟩
    obtain ⟨hs, hy⟩ := hf l q hq (hw l)
    obtain ⟨h1, h2, h3⟩ := hk l (q.line l) (q.profileOfLine l)
    exact ⟨Part.sameButLines_trans hq hs.rest,
      Part.vacantOutsideActive_step hw hs (by rw [hy, h1]) (by rw [hy, h2]) (by rw [hy]; exact h3)⟩
  refine ⟨(Part.forLines_keeps _ f hI p ⟨p.sameButLines_refl, hv⟩).1, fun l => ?_⟩
  obtain ⟨q, ⟨hq, hw⟩, hl, ht⟩ := Part.forLines_reads id (fun q => p.sameButLines q ∧ q.vacantOutsideActive) f hI
    (fun l m q hq hm => (hf m q hq.1 (hq.2 m)).1.others l hm) p ⟨p.sameButLines_refl, hv⟩ l
  change q.line l = p.line l at hl
  change (p.forLines f).line l = (f l q).line l at ht
  rw [ht, (hf l q hq (hw l)).2, Part.sameButLines_profileOfLine hq l (by rw [hl]), hl]

theorem Part.handHeld_leaves (p : Part) (t : LineTime) (hv : p.vacantOutsideActive) :
    p.sameButLines (p.handHeld t)
      ∧ ∀ l, (p.handHeld t).line l = (p.line l).handed (p.profileOfLine l) (p.scan.held.get l).toNat t := by
  refine p.forLines_leaves _ (fun l x r => x.handed r (p.scan.held.get l).toNat t)
    (fun l x r => x.handed_keepsHoldings r _ t) (fun l q hq hw => ?_) hv
  rw [hq.scan]
  exact q.handSample_leaves l _ t hw

theorem Part.restoreScan_leaves (p : Part) (t : LineTime) (hv : p.vacantOutsideActive) :
    (p.reportBoth (.scan .running)).sameButLines (p.restoreScan t)
      ∧ ∀ l, (p.restoreScan t).line l = (p.line l).restored (p.profileOfLine l) (p.scan.held.get l).toNat t := by
  have h := (p.reportBoth (.scan .running)).forLines_leaves
    (fun l q => q.restoreSample l (q.scan.held.get l).toNat t)
    (fun l x r => x.restored r (p.scan.held.get l).toNat t) (fun l x r => x.restored_keepsHoldings r _ t)
    (fun l q hq hw => ?_) hv
  · exact h
  · rw [hq.scan]
    exact q.restoreSample_leaves l _ t hw

end Sys2Proof.Machine
end

section
/-!
PROOF. What a frame leaves of the part (R2, R3, R6, R7): the statements on scan frames.
-/
namespace Sys2Proof.Machine

/-! ### A frame judged in RUNNING -/

/-- A good frame in RUNNING: every line takes its sample, and nothing else but the scan and the reports changes. -/
theorem exec_scanFrame_good (s : State) (bytes : List Byte) (now : LineTime) (hr : s.ready) (hk : s.part.supervisionKept)
    (hs : s.part.scan.state = .running) (hp : s.part.scan.period = some now) (hrec : s.part.scan.received = [])
    (hlen : bytes.length = 49) (hg : frameGood bytes = true) :
    ∃ q, exec (.scanFrame bytes) s = .next (s.withPart q)
      ∧ ((s.part.withReceived bytes).withHeld bytes).sameButLines q
      ∧ ∀ l, q.line l = (s.part.line l).handed (s.part.profileOfLine l) (bytes.getD l.val 0).toNat now := by
  obtain ⟨hq, hl⟩ := ((s.part.withReceived bytes).withHeld bytes).handHeld_leaves now hk.1
  refine ⟨_, ?_, hq, fun l => ?_⟩
  · rw [exec_scanFrame_whole s bytes now hr hp hrec hlen, Part.judgeFrame_good_running (s.part.withReceived bytes) _ _ hg hs]
  · rw [hl l, ← heldOf_get bytes l]
    rfl

/-- A sample that does not move the debounced state is counted by the run that goes on (R21). -/
theorem Line.sampled_steady (x : Line) (r : Profile) (c : Nat) (t : LineTime)
    (h : (x.slicer.take c).debounced = x.slicer.debounced) :
    x.sampled r c t = { x with slicer := x.slicer.take c, decoder := { x.decoder.count t with tests := .confirmation } } := by
  have hc : ¬ x.slicer.completes c = true := by
    intro k
    rw [Slicer.take_debounced, if_pos k] at h
    exact x.slicer.debounced.flip_ne h
  rw [Line.sampled, if_neg hc]

theorem Line.supervised_slicer (x : Line) (r : Profile) (new : Loop) : (x.supervised r new).slicer = x.slicer := by
  cases h : x.state <;> cases new <;> simp only [Line.supervised, h]
  case seizing.open => split <;> rfl
  all_goals rfl

/-- The slicer of a line takes the sample (R8 to R11). -/
theorem Line.sampled_slicer (x : Line) (r : Profile) (c : Nat) (t : LineTime) :
    (x.sampled r c t).slicer = x.slicer.take c := by
  unfold Line.sampled
  split
  · exact Line.supervised_slicer _ _ _
  · rfl

theorem Line.handed_debounced (x : Line) (r : Profile) (c : Nat) (t : LineTime) (hs : x.state ≠ .disabled)
    (ha : x.slicer.awaitingFirst = false) : x.handed r c t = x.sampled r c t := by
  rw [Line.handed, if_neg hs, if_neg (by rw [ha]; decide)]

/-- Settles O7. -/
theorem framesHandEveryLineItsSample : Obligations.FramesHandEveryLineItsSample := by
  unfold Obligations.FramesHandEveryLineItsSample
  intro s bytes now held misses hr hk hs hp hrec hlen hcase
  have hjudged : ∃ q, exec (.scanFrame bytes) s = .next (s.withPart q)
      ∧ ({ s.part with scan := { s.part.scan with misses := misses, held := held, received := bytes } } : Part).sameButLines q
      ∧ ∀ l, q.line l = (s.part.line l).handed (s.part.profileOfLine l) (held.get l).toNat now := by
    rcases hcase with ⟨hb, hsum, hm, hheld⟩ | ⟨hbad, hlt, hm, hheld⟩
    · have he : heldOf bytes = held := Laws.ext_get _ _ (fun l => (heldOf_get bytes l).trans (hheld l).symm)
      obtain ⟨q, hx, hq, hl⟩ := exec_scanFrame_good s bytes now hr hk hs hp hrec hlen ((frameGood_iff bytes hlen).2 ⟨hb, hsum⟩)
      refine ⟨q, hx, ?_, fun l => by rw [hl l, hheld l]⟩
      subst hm he
      rwa [Part.withHeld, ← hs] at hq
    · have hg : ¬ frameGood bytes = true := by
        rw [frameGood_iff bytes hlen]
        rintro ⟨h1, h2⟩
        rcases hbad with ⟨l, hl⟩ | hsum
        · have := h1 l
          omega
        · exact hsum h2
      subst hm hheld
      obtain ⟨hq, hl⟩ := ({ s.part.withReceived bytes with
        scan := { (s.part.withReceived bytes).scan with misses := s.part.scan.misses + 1 } } : Part).handHeld_leaves now hk.1
      refine ⟨_, ?_, hq, hl⟩
      rw [exec_scanFrame_whole s bytes now hr hp hrec hlen, Part.judgeFrame_bad _ _ _ hg,
        Part.scanMiss_early (s.part.withReceived bytes) _ hs hlt]
      rfl
  obtain ⟨q, hx, hq, hl⟩ := hjudged
  refine ⟨s.withPart q, hx, hq.scan, hq.timeBase, hq.senders, hq.free, hq.grantQueue, hq.traceSlots, hq.profiles,
    hq.conventions, hq.globals, ?_⟩
  intro l x c hxl hc
  subst hxl hc
  have hline : (s.withPart q).part.line l = _ := hl l
  refine ⟨fun hd => ?_, fun hd ha => ?_, fun hd ha hsame => ?_⟩
  · rw [hline, Line.handed, if_pos hd]
  · rw [hline, Line.handed_debounced _ _ _ _ hd ha, Line.sampled_slicer]
  · rw [hline, Line.handed_debounced _ _ _ _ hd ha, Line.sampled_steady _ _ _ _ hsame]
    rfl

end Sys2Proof.Machine
end

section
/-!
PROOF. Debounced transitions (R9, R10, R21, R24, R42, R52 to R57, R64).
-/
namespace Sys2Proof.Machine

/-! ### The supervisor's part in a transition, field by field -/

/-- In ACTIVE and CONVERSE a transition leaves the decoder alone (R57). -/
theorem Line.supervised_decoder (x : Line) (r : Profile) (new : Loop) (h : x.state = .active ∨ x.state = .converse) :
    (x.supervised r new).decoder = x.decoder := by
  rcases h with h | h <;> cases new <;> simp only [Line.supervised, h]

/-- The entry to a state leaves a confirmed run as it is (R26). -/
theorem Line.supervised_run (x : Line) (r : Profile) (new : Loop) (h : x.decoder.run.confirmed = true) :
    (x.supervised r new).decoder.run = x.decoder.run := by
  have hrun : { x.decoder.run with confirmed := true } = x.decoder.run := by rw [← h]
  cases hs : x.state <;> cases new <;> simp only [Line.supervised, hs]
  case idle.closed => exact hrun
  case seizing.open => split <;> exact hrun

theorem Line.supervised_ended (x : Line) (r : Profile) (new : Loop) (h : x.decoder.ended = none) :
    (x.supervised r new).decoder.ended = none := by
  cases hs : x.state <;> cases new <;> simp only [Line.supervised, hs, h]
  case idle.closed => rfl
  case seizing.open => split <;> rfl

/-- Only IDLE and SEIZING are left by a transition (R51, R54, R57, R64). -/
theorem Line.supervised_state (x : Line) (r : Profile) (new : Loop) (hi : x.state ≠ .idle) (hz : x.state ≠ .seizing) :
    (x.supervised r new).state = x.state := by
  cases hs : x.state <;> cases new <;> simp only [Line.supervised, hs]
  case idle.closed => exact absurd hs hi
  case seizing.open => exact absurd hs hz

theorem Line.supervised_quarantine (x : Line) (r : Profile) (new : Loop) (h : x.state = .quarantine) :
    (x.supervised r new).timer = r.settleTimer := by
  cases new <;> simp only [Line.supervised, h]

theorem Line.supervised_active_open (x : Line) (r : Profile) (h : x.state = .active) :
    (x.supervised r .open).pulseDialled = true := by
  simp only [Line.supervised, h]

theorem Line.supervised_idle_closed (x : Line) (r : Profile) (h : x.state = .idle) :
    (x.supervised r .closed).state = .seizing
      ∧ (x.supervised r .closed).timer = some ⟨.seize, r.seizeTime - x.decoder.run.duration⟩ := by
  simp only [Line.supervised, h]
  exact ⟨rfl, trivial⟩

theorem Line.supervised_seizing_open (x : Line) (r : Profile) (h : x.state = .seizing) :
    (x.supervised r .open).flaps = flapRise x.flaps
      ∧ (flapRise x.flaps < r.flapLimit →
        (x.supervised r .open).state = .idle ∧ (x.supervised r .open).timer = some ⟨.rest, 30000⟩)
      ∧ (r.flapLimit ≤ flapRise x.flaps →
        (x.supervised r .open).state = .quarantine ∧ (x.supervised r .open).timer = r.settleTimer) := by
  simp only [Line.supervised, h]
  split
  · next k => exact ⟨rfl, fun e => absurd k (Nat.not_le.2 e), fun _ => ⟨rfl, rfl⟩⟩
  · next k => exact ⟨rfl, fun _ => ⟨rfl, rfl⟩, fun e => absurd e k⟩

/-! ### The runs at a transition -/

/-- A run that begins at the first sample of a candidate run has counted its samples when the transition completes
(R10, R21). -/
theorem Run.accumulate_begin (a : Loop) (t : LineTime) (n : Nat) (b : Bool) (hn : n ≤ 8) :
    (Run.begin a (t - BitVec.ofNat 32 n) b).accumulate t = n + 1 := by
  have ht : (t - (t - BitVec.ofNat 32 n)).toNat = n := by
    rw [sub_sub_cancel, BitVec.toNat_ofNat]
    omega
  simp only [Run.accumulate, Run.begin, ht]
  rw [if_neg (by decide)]
  omega

/-- A run whose accumulated duration is not held ends with the difference of its times (R21). -/
theorem Run.endAt_short (r : Run) (t : LineTime) (h : r.duration < 65535) :
    r.endAt t = { r with duration := min 65535 (t - r.start).toNat } := by
  rw [Run.endAt, Run.endedDuration, if_neg (fun k => absurd k.1 (by omega))]

/-- The record between the end of the run and the supervisor's part. -/
def Line.runEnded (x : Line) (c : Nat) (t : LineTime) : Line :=
  { x with
    slicer := x.slicer.take c
    decoder := (x.decoder.endRun x.state x.slicer.debounced.flip (backDate t (x.slicer.candidate + 1))).count t }

theorem Line.sampled_transition (x : Line) (r : Profile) (c : Nat) (t : LineTime) (h : x.slicer.completes c = true) :
    x.sampled r c t = ((x.runEnded c t).supervised r x.slicer.debounced.flip).withDecoder
      (fun d => { d with tests := .confirmation }) := by
  rw [Line.sampled, if_pos h]
  rfl

section
variable (x : Line) (c : Nat) (t : LineTime)

/-- In ACTIVE and CONVERSE a confirmed run ends and awaits settlement (R23, R42). -/
theorem Line.runEnded_confirmed (hs : x.state = .active ∨ x.state = .converse) (hc : x.decoder.run.confirmed = true)
    (hn : x.slicer.candidate ≤ 8) :
    (x.runEnded c t).decoder.run
        = ⟨x.slicer.debounced.flip, t - BitVec.ofNat 32 x.slicer.candidate, x.slicer.candidate + 1, false⟩
      ∧ (x.runEnded c t).decoder.ended = some (x.decoder.run.endAt (t - BitVec.ofNat 32 x.slicer.candidate)) := by
  have h : x.decoder.endRun x.state x.slicer.debounced.flip (backDate t (x.slicer.candidate + 1))
      = x.decoder.keepEnded x.slicer.debounced.flip (t - BitVec.ofNat 32 x.slicer.candidate) := by
    rw [Decoder.endRun, if_pos hs, if_pos hc]
    rfl
  simp only [Line.runEnded, h, Decoder.keepEnded, Decoder.count, Run.accumulate_begin _ t _ _ hn]
  exact ⟨rfl, trivial⟩

/-- In ACTIVE and CONVERSE an unconfirmed run is absorbed into the ended run, which goes on (R24). -/
theorem Line.runEnded_unconfirmed (r : Run) (hs : x.state = .active ∨ x.state = .converse)
    (hc : x.decoder.run.confirmed = false) (he : x.decoder.ended = some r) :
    (x.runEnded c t).decoder.ended = none
      ∧ (x.runEnded c t).decoder.run = { r with duration := r.accumulate t } := by
  have h : ∀ new u, x.decoder.endRun x.state new u = { x.decoder with run := r, ended := none } := by
    intro new u
    rw [Decoder.endRun, if_pos hs, hc, Decoder.absorb, he]
    rfl
  simp only [Line.runEnded, h, Decoder.count]
  exact ⟨trivial, trivial⟩

/-- In every other state a confirmed run starts in place of the one that ends (R21). -/
theorem Line.runEnded_elsewhere (ha : x.state ≠ .active) (hc : x.state ≠ .converse) (hn : x.slicer.candidate ≤ 8) :
    (x.runEnded c t).decoder.run
        = ⟨x.slicer.debounced.flip, t - BitVec.ofNat 32 x.slicer.candidate, x.slicer.candidate + 1, true⟩
      ∧ (x.runEnded c t).decoder.ended = none := by
  have h : x.decoder.endRun x.state x.slicer.debounced.flip (backDate t (x.slicer.candidate + 1))
      = x.decoder.replaceRun x.slicer.debounced.flip (t - BitVec.ofNat 32 x.slicer.candidate) := by
    rw [Decoder.endRun, if_neg (fun k => k.elim ha hc)]
    rfl
  simp only [Line.runEnded, h, Decoder.replaceRun, Decoder.count, Run.accumulate_begin _ t _ _ hn]
  exact ⟨rfl, trivial⟩

end

/-- A sample that moves the debounced state completes a transition to the other one (R9). -/
theorem Slicer.completes_of_ne (x : Slicer) (c : Nat) (h : (x.take c).debounced ≠ x.debounced) :
    x.completes c = true ∧ (x.take c).debounced = x.debounced.flip := by
  have hc : x.completes c = true := Classical.byContradiction fun k => h (by rw [Slicer.take_debounced, if_neg k])
  exact ⟨hc, by rw [Slicer.take_debounced, if_pos hc]⟩

/-- Settles O8. -/
theorem transitionsEndTheRun : Obligations.TransitionsEndTheRun := by
  unfold Obligations.TransitionsEndTheRun
  intro s bytes now start l x c new flaps hr hk hs hp hrec hlen hb hsum hx hd ha hn hc hnew hne hstart hflaps
  obtain ⟨q, hexec, -, hl⟩ := exec_scanFrame_good s bytes now hr hk hs hp hrec hlen ((frameGood_iff bytes hlen).2 ⟨hb, hsum⟩)
  obtain ⟨hcomp, hflip⟩ := x.slicer.completes_of_ne c (hnew ▸ hne)
  have hline : (s.withPart q).part.line l = ((x.runEnded c now).supervised (s.part.profileOfLine l) new).withDecoder
      (fun d => { d with tests := .confirmation }) := by
    rw [hnew, hflip, ← x.sampled_transition _ c now hcomp, ← x.handed_debounced _ c now hd ha, hx, hc]
    exact hl l
  have hnf : new = x.slicer.debounced.flip := hnew.trans hflip
  refine ⟨s.withPart q, hexec, ?_⟩
  rw [hline]
  generalize s.part.profileOfLine l = r
  refine ⟨rfl, fun h1 h2 h3 => ?_, fun g h1 h2 h3 => ?_, fun h1 h2 => ?_, fun h1 h2 => ?_, fun h1 h2 => ?_, fun h1 h2 => ?_,
    fun h1 => ?_, fun h1 => ?_⟩
  · obtain ⟨hrun, hend⟩ := x.runEnded_confirmed c now h1 h2 hn
    rw [Run.endAt_short _ _ h3] at hend
    simp only [Line.withDecoder, Line.supervised_decoder (x.runEnded c now) r new h1, hrun, hend]
    rw [hnf, hstart]
    exact ⟨rfl, rfl⟩
  · obtain ⟨hend, hrun⟩ := x.runEnded_unconfirmed c now g h1 h2 h3
    simp only [Line.withDecoder, Line.supervised_decoder (x.runEnded c now) r new h1, hrun, hend]
    exact ⟨trivial, rfl⟩
  · obtain ⟨hrun, hend⟩ := x.runEnded_elsewhere c now h1 h2 hn
    simp only [Line.withDecoder, Line.supervised_run _ r new (by rw [hrun]), Line.supervised_ended _ r new hend, hrun]
    exact ⟨by rw [hnf, hstart], trivial⟩
  · subst h2
    exact Line.supervised_active_open _ r h1
  · obtain ⟨hrun, -⟩ := x.runEnded_elsewhere c now (by rw [h1]; decide) (by rw [h1]; decide) hn
    obtain ⟨k1, k2⟩ := Line.supervised_idle_closed (x.runEnded c now) r h1
    rw [h2]
    exact ⟨k1, k2.trans (by rw [hrun])⟩
  · rw [h2, hflaps]
    exact Line.supervised_seizing_open (x.runEnded c now) r h1
  · exact Line.supervised_quarantine (x.runEnded c now) r new h1
  · simp only [List.mem_cons, List.not_mem_nil, or_false, not_or] at h1
    exact Line.supervised_state (x.runEnded c now) r new h1.1 h1.2

end Sys2Proof.Machine
end

section
/-!
PROOF. Samples that set the debounced state directly: the first sample after ENABLE (R12) and the frame that restores the
scan (R6).
-/
namespace Sys2Proof.Machine

/-- The level of the state that a sample sets directly is tracked: the sample lies on that state's side of T (R11, R12). -/
theorem Slicer.takeDirect_eq (x : Slicer) (c : Nat) :
    x.takeDirect c = { x with
      debounced := x.direct c, candidate := 0, awaitingFirst := false
      lc := if x.direct c = .closed then trackLevel x.lc (16 * c) else x.lc
      lo := if x.direct c = .open then trackLevel x.lo (16 * c) else x.lo } := by
  have hd : x.direct c = if x.threshold < 16 * c then .closed else .open := rfl
  by_cases h : x.threshold < 16 * c
  · rw [if_pos h] at hd
    rw [Slicer.takeDirect, Slicer.track_closed _ _ _ hd, if_pos (Nat.le_of_lt h), hd]
    rfl
  · rw [if_neg h] at hd
    rw [Slicer.takeDirect, Slicer.track_open _ _ _ hd, if_pos (Nat.le_of_not_lt h), hd]
    rfl

/-- A good frame in LOST: SCAN, then every line takes the restoring sample; nothing else but the scan and the reports
changes (R6). -/
theorem exec_scanFrame_restoring (s : State) (bytes : List Byte) (now : LineTime) (hr : s.ready)
    (hk : s.part.supervisionKept) (hs : s.part.scan.state = .lost) (hp : s.part.scan.period = some now)
    (hrec : s.part.scan.received = []) (hlen : bytes.length = 49) (hg : frameGood bytes = true) :
    ∃ q, exec (.scanFrame bytes) s = .next (s.withPart q)
      ∧ (((s.part.withReceived bytes).withHeld bytes).reportBoth (.scan .running)).sameButLines q
      ∧ ∀ l, q.line l = (s.part.line l).restored (s.part.profileOfLine l) (bytes.getD l.val 0).toNat now := by
  obtain ⟨hq, hl⟩ := ((s.part.withReceived bytes).withHeld bytes).restoreScan_leaves now hk.1
  refine ⟨_, ?_, hq, fun l => ?_⟩
  · rw [exec_scanFrame_whole s bytes now hr hp hrec hlen, Part.judgeFrame_good_lost (s.part.withReceived bytes) _ _ hg hs]
  · rw [hl l, ← heldOf_get bytes l]
    rfl

/-- Settles O9. -/
theorem firstSampleSetsTheLoopDirectly : Obligations.FirstSampleSetsTheLoopDirectly := by
  unfold Obligations.FirstSampleSetsTheLoopDirectly
  intro s bytes now l x c st sl hr hk hp hrec hlen hb hsum hx hs ha _ hc hst hsl
  have hg := (frameGood_iff bytes hlen).2 ⟨hb, hsum⟩
  have hd : ¬ x.state = .disabled := by rw [hs]; decide
  have hfirst : ∃ q, exec (.scanFrame bytes) s = .next (s.withPart q)
      ∧ q.line l = x.first (s.part.profileOfLine l) c now := by
    cases hscan : s.part.scan.state
    · obtain ⟨q, hexec, -, hl⟩ := exec_scanFrame_good s bytes now hr hk hscan hp hrec hlen hg
      exact ⟨q, hexec, by rw [hl l, ← hx, ← hc, Line.handed, if_neg hd, if_pos ha]⟩
    · obtain ⟨q, hexec, -, hl⟩ := exec_scanFrame_restoring s bytes now hr hk hscan hp hrec hlen hg
      exact ⟨q, hexec, by rw [hl l, ← hx, ← hc, Line.restored, if_neg hd, if_pos ha]⟩
  obtain ⟨q, hexec, hline⟩ := hfirst
  have hdir : x.slicer.direct c = st := hst.symm
  have hslicer : x.slicer.takeDirect c = sl := by
    rw [hsl, Slicer.takeDirect_eq, hdir]
    rfl
  refine ⟨s.withPart q, hexec, ?_⟩
  change q.line l = _
  rw [hline, Line.first, Line.reseeded, hslicer, hdir]
  clear hst hsl hdir
  cases st
  · rw [if_neg (fun k => absurd k.2 (by decide)), if_neg (by decide), if_neg (by decide), ← hs]
  · rw [if_pos ⟨hs, rfl⟩, if_pos rfl, if_pos rfl]
    rfl

/-! ### The restoring sample, field by field -/

/-- An enabled line's debounced state is set directly, the candidate run count is 0, and a confirmed run starts (R6). -/
theorem Line.restored_seeded (x : Line) (r : Profile) (c : Nat) (t : LineTime) (h : x.state ≠ .disabled) :
    (x.restored r c t).slicer = x.slicer.takeDirect c
      ∧ (x.restored r c t).decoder.run = ⟨x.slicer.direct c, t, 1, true⟩ ∧ (x.restored r c t).decoder.ended = none := by
  rw [Line.restored, if_neg h]
  split
  · unfold Line.first
    split <;> exact ⟨rfl, rfl, rfl⟩
  split
  · exact ⟨rfl, rfl, rfl⟩
  · exact ⟨Line.supervised_slicer _ _ _, Line.supervised_run _ _ _ rfl, Line.supervised_ended _ _ _ rfl⟩

theorem Line.restored_same (x : Line) (r : Profile) (c : Nat) (t : LineTime) (h : x.state ≠ .disabled)
    (ha : x.slicer.awaitingFirst = false) (hd : x.slicer.direct c = x.slicer.debounced) :
    x.restored r c t = x.reseeded c t := by
  rw [Line.restored, if_neg h, if_neg (by rw [ha]; decide), if_pos hd]

theorem Line.restored_changed (x : Line) (r : Profile) (c : Nat) (t : LineTime) (h : x.state ≠ .disabled)
    (ha : x.slicer.awaitingFirst = false) (hd : x.slicer.direct c ≠ x.slicer.debounced) :
    x.restored r c t = (x.reseeded c t).supervised r (x.slicer.direct c) := by
  rw [Line.restored, if_neg h, if_neg (by rw [ha]; decide), if_neg hd]

/-- A report for both links stands at the tail of a link that takes it (R163). -/
theorem Part.reportBoth_queue (p : Part) (b : ReportBody) (lk : LinkId) (ht : (p.link lk).state ≠ .failed)
    (hl : (p.link lk).queue.length < 128) : ((p.reportBoth b).link lk).queue = (p.link lk).queue ++ [⟨p.stamp, b⟩] := by
  rw [Part.reportBoth_link]
  rcases (p.link lk).push_cases ⟨p.stamp, b⟩ with ⟨k, _⟩ | ⟨_, _, e⟩ | ⟨_, k, _⟩
  · exact absurd k ht
  · rw [e]
  · omega

/-- Settles O12. -/
theorem goodFrameRestoresTheScan : Obligations.GoodFrameRestoresTheScan := by
  unfold Obligations.GoodFrameRestoresTheScan
  intro s bytes now hr hk hs hp hrec hlen hb hsum
  obtain ⟨q, hexec, hq, hl⟩ := exec_scanFrame_restoring s bytes now hr hk hs hp hrec hlen ((frameGood_iff bytes hlen).2 ⟨hb, hsum⟩)
  have hscan : q.scan = ((s.part.withReceived bytes).withHeld bytes).scan := hq.scan
  refine ⟨s.withPart q, hexec, ?_⟩
  change q.scan.state = .running ∧ q.scan.misses = 0 ∧ _
  rw [hscan]
  refine ⟨rfl, rfl, fun l => ?_, fun lk ht hlink => ?_, fun l x c st hx hc hst => ?_⟩
  · change q.scan.held.get l = _
    rw [hscan]
    exact heldOf_get bytes l
  · have hw : ((s.part.withReceived bytes).withHeld bytes).link lk = s.part.link lk := by cases lk <;> rfl
    have h := hq.reports lk
    rw [Part.reportBoth_queue _ _ lk (by rw [hw]; exact ht) (by rw [hw]; exact hlink), hw] at h
    exact h
  · have hline : (s.withPart q).part.line l = x.restored (s.part.profileOfLine l) c now := by
      rw [hx, hc]
      exact hl l
    have hdir : x.slicer.direct c = st := hst.symm
    rw [hline]
    refine ⟨fun h => ?_, fun h => ?_, fun h ha he => ?_, fun h ha hbefore he => ?_, fun h ha hne => ?_⟩
    · rw [Line.restored, if_pos h]
    · obtain ⟨h1, h2, h3⟩ := x.restored_seeded (s.part.profileOfLine l) c now h
      rw [h1, h2, h3, Slicer.takeDirect_debounced, Slicer.takeDirect_candidate, hdir]
      exact ⟨rfl, rfl, rfl, rfl⟩
    · rw [x.restored_same _ c now h ha (hdir.trans he)]
      exact ⟨rfl, rfl⟩
    · rw [x.restored_changed _ c now (by rw [h]; decide) ha (by rw [hdir, he, hbefore]; decide), hdir, he]
      exact Line.supervised_active_open _ _ h
    · rw [x.restored_changed _ c now (by rw [h]; decide) ha (by rwa [hdir])]
      exact Line.supervised_quarantine _ _ _ h

end Sys2Proof.Machine
end

section
/-!
PROOF. A frame that is incomplete at the next strobe (R1, R3, R4, R5).
-/
namespace Sys2Proof.Machine

theorem Line.handed_slicer (x : Line) (r : Profile) (c : Nat) (t : LineTime) (hs : x.state ≠ .disabled)
    (ha : x.slicer.awaitingFirst = false) : (x.handed r c t).slicer = x.slicer.take c := by
  rw [x.handed_debounced r c t hs ha, Line.sampled_slicer]

/-- A tick touches the timer of a line alone. -/
theorem Part.ticked_line (p : Part) (l : LineId) : p.ticked.line l = p.line l ∨ p.ticked.line l = (p.line l).tick := by
  unfold Part.ticked
  rw [Part.line_updLink, Part.line_updLink]
  exact (p.setTimeBase TimeBase.tick).line_tickLines l

theorem Part.ticked_line_kept (p : Part) (l : LineId) :
    (p.ticked.line l).slicer = (p.line l).slicer ∧ (p.ticked.line l).decoder = (p.line l).decoder
      ∧ (p.ticked.line l).state = (p.line l).state := by
  rcases p.ticked_line l with h | h <;> rw [h] <;> exact ⟨rfl, rfl, rfl⟩

theorem Part.ticked_vacant {p : Part} (h : p.vacantOutsideActive) : p.ticked.vacantOutsideActive := by
  intro l hs
  rw [(p.ticked_line_kept l).2.2] at hs
  obtain ⟨h1, h2, h3⟩ := h l hs
  have hg : p.ticked.grantQueue = p.grantQueue := by rw [Part.ticked_eq]
  unfold Part.vacant
  rw [hg]
  rcases p.ticked_line l with e | e <;> rw [e] <;> exact ⟨h1, h2, h3⟩

/-- A strobe that cuts a frame short judges a miss and opens a new period (R1, R3). -/
theorem Part.strobe_short (p : Part) (now u : LineTime) (hp : p.scan.period = some u) (hl : p.scan.received.length < 49) :
    p.strobe now = { p.scanMiss u with scan := { (p.scanMiss u).scan with period := some now, received := [] } } := by
  simp only [Part.strobe, hp, if_pos hl]

/-- What each miss does to the scan and to the lines (R3, R4, R5). -/
theorem Part.scanMiss_cases (p : Part) (u : LineTime) (hv : p.vacantOutsideActive) :
    (p.scanMiss u).timeBase = p.timeBase ∧
    ((p.scan.state = .running ∧ p.scan.misses < 7 ∧ (p.scanMiss u).scan = { p.scan with misses := p.scan.misses + 1 }
        ∧ ∀ l, (p.scanMiss u).line l = (p.line l).handed (p.profileOfLine l) (p.scan.held.get l).toNat u)
      ∨ (p.scan.state = .running ∧ 7 ≤ p.scan.misses ∧ (p.scanMiss u).scan = { p.scan with state := .lost, misses := 8 }
        ∧ ∀ l, (p.scanMiss u).line l = (p.line l).afterLoss (p.profileOfLine l))
      ∨ (p.scan.state = .lost ∧ p.scanMiss u = p)) := by
  cases hs : p.scan.state with
  | lost => exact ⟨by rw [p.scanMiss_lost u hs], Or.inr (Or.inr ⟨rfl, p.scanMiss_lost u hs⟩)⟩
  | running =>
    by_cases hm : p.scan.misses < 7
    · obtain ⟨hq, hl⟩ := ({ p with scan := { p.scan with misses := p.scan.misses + 1 } } : Part).handHeld_leaves u hv
      rw [p.scanMiss_early u hs hm]
      exact ⟨hq.timeBase, Or.inl ⟨rfl, hm, hq.scan, hl⟩⟩
    · rw [p.scanMiss_eighth u hs (Nat.le_of_not_lt hm)]
      exact ⟨p.loseScan_timeBase, Or.inr (Or.inl ⟨rfl, Nat.le_of_not_lt hm, p.loseScan_scan, p.loseScan_line⟩)⟩

/-- Settles O11. -/
theorem incompleteFramesAreMisses : Obligations.IncompleteFramesAreMisses := by
  unfold Obligations.IncompleteFramesAreMisses
  intro s u hr hc hk hl hw hp hrec
  have hv : (s.part.setTimeBase TimeBase.marked).ticked.vacantOutsideActive :=
    Part.ticked_vacant (Part.vacantOutsideActive_of_kept (p := s.part.setTimeBase TimeBase.marked) hk)
  have hkept : ∀ l, _ := (s.part.setTimeBase TimeBase.marked).ticked_line_kept
  have hscan : (s.part.setTimeBase TimeBase.marked).ticked.scan = s.part.scan := Part.ticked_scan _
  have htime : (s.part.setTimeBase TimeBase.marked).ticked.timeBase.lineTime = s.part.timeBase.lineTime + 1 := by
    rw [Part.ticked_eq]
    rfl
  have hlost : s.part.scan.state = .lost → (s.part.setTimeBase TimeBase.marked).ticked.lines = s.part.lines := by
    intro h
    rw [Part.ticked_eq, Part.setTimeBase_scan, h]
    rfl
  refine ⟨_, exec_oscillatorMillisecond_tick s hr hc hl hw, ?_⟩
  rw [Part.tickCore_eq, Part.strobe_short _ _ u (by rw [hscan]; exact hp) (by rw [hscan]; exact hrec)]
  generalize (s.part.setTimeBase TimeBase.marked).ticked = p at *
  obtain ⟨ht, hcases⟩ := p.scanMiss_cases u hv
  rw [hscan] at hcases
  generalize p.scanMiss u = q at *
  refine ⟨by rw [← htime, ← ht]; rfl, rfl, rfl, ?_, fun hrun hm => ?_, fun hrun hm => ?_, fun hs => ?_⟩
  · change q.scan.held = _
    rcases hcases with ⟨-, -, e, -⟩ | ⟨-, -, e, -⟩ | ⟨-, e⟩
    · rw [e]
    · rw [e]
    · rw [e, hscan]
  · change q.scan.state = _ ∧ q.scan.misses = _ ∧ ∀ l, _ → _ → (q.line l).slicer = _
    rcases hcases with ⟨-, -, e, hline⟩ | ⟨-, h, -⟩ | ⟨h, -⟩
    · rw [e]
      refine ⟨hrun, rfl, fun l hd ha => ?_⟩
      obtain ⟨h1, -, h3⟩ := hkept l
      rw [hline l, Line.handed_slicer _ _ _ _ (by rw [h3]; exact hd) (by rw [h1]; exact ha), h1]
      rfl
    · omega
    · exact absurd (hrun.symm.trans h) (by decide)
  · change q.scan.state = _ ∧ q.scan.misses = _ ∧ ∀ l, (q.line l).slicer = _ ∧ (q.line l).decoder.run = _
      ∧ (q.line l).state = _ ∧ (_ → (q.line l).decoder.digit = none)
    rcases hcases with ⟨-, h, -⟩ | ⟨-, -, e, hline⟩ | ⟨h, -⟩
    · omega
    · rw [e]
      refine ⟨rfl, rfl, fun l => ?_⟩
      obtain ⟨h1, h2, h3⟩ := hkept l
      obtain ⟨k1, k2, k3⟩ := (p.line l).afterLoss_kept (p.profileOfLine l)
      rw [hline l, k1, k2, k3, h1, h2, h3]
      exact ⟨rfl, rfl, rfl, fun hd => Line.afterLoss_digit _ _ (by rw [h3]; exact hd)⟩
    · exact absurd (hrun.symm.trans h) (by decide)
  · change q.scan.state = _ ∧ q.scan.misses = _ ∧ q.lines = _
    rcases hcases with ⟨h, -⟩ | ⟨h, -⟩ | ⟨-, e⟩
    · exact absurd (hs.symm.trans h) (by decide)
    · exact absurd (hs.symm.trans h) (by decide)
    · rw [e, hscan, hlost hs]
      exact ⟨hs, rfl, rfl⟩

end Sys2Proof.Machine
end

section
/-!
PROOF. The class review (R14 to R19, R63).
-/
namespace Sys2Proof.Machine

/-! ### The review of a slicer (R15, R18) -/

theorem faultReviewsAfter_eq (n : Nat) (c : LineClass) :
    faultReviewsAfter n c = if c = .fault then min 8 (n + 1) else 0 := by
  cases c <;> rfl

/-- A review is the table of R15 with the count of R18. -/
theorem Slicer.review_eq (x : Slicer) (c : LineClass)
    (hc : c = (if x.lc - x.lo < 96 then LineClass.fault else if x.lc - x.lo < 320 then .weak
      else if 64 < x.lo then .damp else .clean)) :
    x.review = { x with cls := c, faultReviews := if c = .fault then min 8 (x.faultReviews + 1) else 0 } := by
  have hr : x.reviewClass = c := hc.symm
  rw [Slicer.review, hr, faultReviewsAfter_eq]

/-- Only a review that sets FAULT brings the count to 8 (R18). -/
theorem Slicer.review_cls_of_eight (x : Slicer) (h : x.review.faultReviews = 8) : x.review.cls = .fault := by
  by_contra hc
  have h0 : x.review.faultReviews = 0 := (faultReviewsAfter_eq _ _).trans (if_neg hc)
  exact absurd (h0.symm.trans h) (by decide)

theorem Slicer.review_faultReviews_le (x : Slicer) : x.review.faultReviews ≤ 8 := by
  change faultReviewsAfter x.faultReviews x.reviewClass ≤ 8
  rw [faultReviewsAfter_eq]
  split
  · exact Nat.min_le_left _ _
  · exact Nat.zero_le _

/-! ### The review of a line: its cases -/

/-- The part with the line's slicer reviewed, and CLASS CHANGE where the class is another (R17). -/
def Part.classed (p : Part) (l : LineId) : Part :=
  (p.setLine l ((p.line l).withSlicer Slicer.review)).classChangeReport l (p.line l).slicer.cls

theorem Part.classed_eq (p : Part) (l : LineId) : p.classed l =
    if (p.line l).slicer.review.cls = (p.line l).slicer.cls
    then p.setLine l { p.line l with slicer := (p.line l).slicer.review }
    else (p.setLine l { p.line l with slicer := (p.line l).slicer.review }).reportBoth
      (.classChange l (p.line l).slicer.cls (p.line l).slicer.review.cls (p.line l).slicer.review.lc
        (p.line l).slicer.review.lo (p.line l).slicer.review.faultReviews) := by
  simp only [Part.classed, Part.classChangeReport, Part.line_setLine_self, Line.withSlicer]

theorem Part.classed_line (p : Part) (l : LineId) :
    (p.classed l).line l = { p.line l with slicer := (p.line l).slicer.review } := by
  rw [Part.classed_eq]
  split
  · exact p.line_setLine_self l _
  · rw [Part.line_reportBoth, Part.line_setLine_self]

theorem Part.classed_beside (p : Part) (l : LineId) : p.sameButLine l (p.classed l) := by
  rw [Part.classed_eq]
  split
  · exact p.sameButLine_setLine l _
  · exact Part.sameButLine_trans (p.sameButLine_setLine l _) (Part.sameButLine_reportBoth _ l _)

theorem Part.classed_profileOfLine (p : Part) (l : LineId) : (p.classed l).profileOfLine l = p.profileOfLine l :=
  Part.sameButLines_profileOfLine (p.classed_beside l).rest l (by rw [Part.classed_line])

theorem Part.reviewLine_disabled (p : Part) (l : LineId) (h : (p.line l).state = .disabled) : p.reviewLine l = p := by
  simp only [Part.reviewLine, h, if_true]

/-- What follows the class change at an enabled line (R19, R64). -/
theorem Part.reviewLine_enabled (p : Part) (l : LineId) (h : (p.line l).state ≠ .disabled) :
    p.reviewLine l = if (p.line l).slicer.review.cls = .fault then (p.classed l).faultReviewed l else p.classed l := by
  have hc : (p.updLine l (fun x => x.withSlicer Slicer.review)).classChangeReport l (p.line l).slicer.cls = p.classed l :=
    rfl
  simp only [Part.reviewLine, if_neg h, hc, Part.classed_line]

theorem Part.reviewLine_sound (p : Part) (l : LineId) (h : (p.line l).state ≠ .disabled)
    (hc : (p.line l).slicer.review.cls ≠ .fault) : p.reviewLine l = p.classed l := by
  rw [p.reviewLine_enabled l h, if_neg hc]

/-- FAULT in QUARANTINE restarts the SETTLE timer (R64). -/
theorem Part.reviewLine_settling (p : Part) (l : LineId) (h : (p.line l).state = .quarantine)
    (hc : (p.line l).slicer.review.cls = .fault) :
    p.reviewLine l = (p.classed l).setLine l { p.line l with
      slicer := (p.line l).slicer.review
      timer := some ⟨.settle, (p.profileOfLine l).settleTime * 1000⟩ } := by
  have hf : (p.classed l).faultReviewed l = (p.classed l).startTimer l .settle := by
    simp only [Part.faultReviewed, Part.classed_line, h]
  rw [p.reviewLine_enabled l (by rw [h]; decide), if_pos hc, hf, Part.startTimer_eq, Part.classed_line, Part.classed_profileOfLine]
  rfl

/-- The steps of R63 at a line whose slicer was reviewed. -/
theorem Part.classed_quarantine (p : Part) (l : LineId) : (p.classed l).quarantine l .fault =
    (((p.classed l).abandoned l).afterLeaving l .quarantine
        (some ⟨.settle, (p.profileOfLine l).settleTime * 1000⟩)).reportBoth
      (.lineState l .quarantine (p.line l).state (p.line l).gate .fault none
        (((p.classed l).abandoned l).line l).queue.length) := by
  rw [Part.quarantine, Part.leaveFor_timed _ l .quarantine .fault none .settle rfl (by decide),
    Part.classed_profileOfLine, Part.classed_line]
  rfl

/-- FAULT elsewhere leaves the line before the eighth review and quarantines it at that one (R19, R63). -/
theorem Part.reviewLine_fault (p : Part) (l : LineId) (h : (p.line l).state ≠ .disabled)
    (hq : (p.line l).state ≠ .quarantine) (hc : (p.line l).slicer.review.cls = .fault) :
    p.reviewLine l = if (p.line l).slicer.review.faultReviews < 8 then p.classed l
      else (((p.classed l).abandoned l).afterLeaving l .quarantine
          (some ⟨.settle, (p.profileOfLine l).settleTime * 1000⟩)).reportBoth
        (.lineState l .quarantine (p.line l).state (p.line l).gate .fault none
          (((p.classed l).abandoned l).line l).queue.length) := by
  have hf : (p.classed l).faultReviewed l
      = if (p.line l).slicer.review.faultReviews = 8 then (p.classed l).quarantine l .fault else p.classed l := by
    cases hs : (p.line l).state <;> simp only [Part.faultReviewed, Part.classed_line, hs]
    case disabled => exact absurd hs h
    case quarantine => exact absurd hs hq
  have hle := (p.line l).slicer.review_faultReviews_le
  rw [p.reviewLine_enabled l h, if_pos hc, hf, p.classed_quarantine l]
  split
  · next h8 => rw [if_neg (by omega)]
  · next h8 => rw [if_pos (by omega)]

/-! ### What a review leaves of every line's state and slicer -/

/-- What a review judges and what it may change: the line's state and its slicer. -/
def Line.standing (x : Line) : LineState × Slicer := (x.state, x.slicer)

/-- The standing of a line after its review (R15, R18, R19). -/
def Line.reviewed (x : Line) : LineState × Slicer :=
  if x.state = .disabled then x.standing
  else (if x.slicer.review.faultReviews = 8 then .quarantine else x.state, x.slicer.review)

/-- The steps of R59 take the line to the new state, keep its slicer, and keep the standing of the other lines. -/
theorem Part.standing_left (p : Part) (l m : LineId) (st : LineState) (t : Option Timer) (b : ReportBody) :
    ((((p.abandoned l).afterLeaving l st t).reportBoth b).line m).standing
      = if m = l then (st, (p.line l).slicer) else (p.line m).standing := by
  rw [Part.line_reportBoth]
  split
  · next e =>
    subst e
    obtain ⟨-, -, hs, -⟩ := p.abandoned_line m
    have hl : ((p.abandoned m).afterLeaving m st t).line m = { (p.abandoned m).line m with
        state := st, timer := t, queue := [], decoder := ((p.abandoned m).line m).decoder.cleared st } :=
      (p.abandoned m).line_setLine_self m _
    rw [hl, Line.standing, hs]
  · next e =>
    have hl : ((p.abandoned l).afterLeaving l st t).line m = (p.abandoned l).line m :=
      (p.abandoned l).line_setLine_ne l m _ e
    have ha := (Part.abort_sameAside (p.setLine l { p.line l with
      timer := none
      decoder := { (p.line l).decoder with digit := none, pendingBreak := none } }) l).line m
    rw [Part.line_setLine_ne _ _ _ _ e] at ha
    rw [hl, Line.standing, Line.standing, Part.abandoned, Line.sameAside_state ha, Line.sameAside_slicer ha]

theorem Part.timeBase_left (p : Part) (l : LineId) (st : LineState) (t : Option Timer) (b : ReportBody) :
    (((p.abandoned l).afterLeaving l st t).reportBoth b).timeBase = p.timeBase :=
  (Part.abort_sameAside (p.setLine l { p.line l with
    timer := none
    decoder := { (p.line l).decoder with digit := none, pendingBreak := none } }) l).timeBase

theorem Part.classed_standing (p : Part) (l m : LineId) : ((p.classed l).line m).standing
    = if m = l then ((p.line l).state, (p.line l).slicer.review) else (p.line m).standing := by
  split
  · next e => rw [e, Part.classed_line]; rfl
  · next e => rw [(p.classed_beside l).others m e]

/-- The review of a line changes the standing of that line alone, and keeps the time base. -/
theorem Part.reviewLine_standing (p : Part) (l : LineId) : (p.reviewLine l).timeBase = p.timeBase ∧
    ∀ m, ((p.reviewLine l).line m).standing = if m = l then (p.line l).reviewed else (p.line m).standing := by
  by_cases hd : (p.line l).state = .disabled
  · rw [p.reviewLine_disabled l hd]
    refine ⟨rfl, fun m => ?_⟩
    split
    · next e => rw [e, Line.reviewed, if_pos hd]
    · rfl
  have hr : (p.line l).reviewed
      = (if (p.line l).slicer.review.faultReviews = 8 then .quarantine else (p.line l).state, (p.line l).slicer.review) :=
    if_neg hd
  rw [hr]
  by_cases hc : (p.line l).slicer.review.cls = .fault
  · by_cases hq : (p.line l).state = .quarantine
    · rw [p.reviewLine_settling l hq hc, hq, ite_self]
      refine ⟨(p.classed_beside l).rest.timeBase, fun m => ?_⟩
      split
      · next e => rw [e, Part.line_setLine_self, Line.standing, hq]
      · next e => rw [Part.line_setLine_ne _ _ _ _ e, (p.classed_beside l).others m e]
    · have hle := (p.line l).slicer.review_faultReviews_le
      rw [p.reviewLine_fault l hd hq hc]
      split
      · next h8 =>
        rw [if_neg (by omega)]
        exact ⟨(p.classed_beside l).rest.timeBase, p.classed_standing l⟩
      · next h8 =>
        rw [if_pos (by omega)]
        refine ⟨(Part.timeBase_left _ _ _ _ _).trans (p.classed_beside l).rest.timeBase, fun m => ?_⟩
        rw [Part.standing_left, Part.classed_line]
        split
        · rfl
        · next e => rw [(p.classed_beside l).others m e]
  · rw [p.reviewLine_sound l hd hc, if_neg (fun h => hc (Slicer.review_cls_of_eight _ h))]
    exact ⟨(p.classed_beside l).rest.timeBase, p.classed_standing l⟩

/-! ### The row -/

/-- The part with the review that was due taken (R14). -/
def Part.reviewTaken (p : Part) : Part := { p with timeBase := { p.timeBase with reviewDue := false } }

theorem exec_classReview_lost (s : State) (h : s.ready) (hd : s.part.timeBase.reviewDue = true)
    (hs : s.part.scan.state = .lost) : exec .classReview s = .next (s.withPart s.part.reviewTaken) := by
  change Host.Outcome.next (s.onPart (fun p => p.settleUrgent.classReview)) = _
  rw [State.onPart_working s _ h.1, s.part.settleUrgent_settled h.2, Part.classReview, if_pos hd]
  simp only [hs]
  rfl

theorem exec_classReview_running (s : State) (h : s.ready) (hd : s.part.timeBase.reviewDue = true)
    (hs : s.part.scan.state = .running) :
    exec .classReview s = .next (s.withPart (s.part.reviewTaken.forLines (fun l p => p.reviewLine l))) := by
  change Host.Outcome.next (s.onPart (fun p => p.settleUrgent.classReview)) = _
  rw [State.onPart_working s _ h.1, s.part.settleUrgent_settled h.2, Part.classReview, if_pos hd]
  simp only [hs]
  rfl

/-- The review of all lines keeps the time base and leaves each line the standing of its own review. -/
theorem Part.classReview_standings (p : Part) : (p.forLines (fun l p => p.reviewLine l)).timeBase = p.timeBase ∧
    ∀ l, ((p.forLines (fun l p => p.reviewLine l)).line l).standing = (p.line l).reviewed := by
  refine ⟨?_, fun l => ?_⟩
  · exact Part.forLines_keeps (fun q => q.timeBase = p.timeBase) (fun l p => p.reviewLine l)
      (fun l q h => (q.reviewLine_standing l).1.trans h) p rfl
  · obtain ⟨q, -, hq, ht⟩ := Part.forLines_reads Line.standing (fun _ => True) (fun l p => p.reviewLine l)
      (fun _ _ _ => trivial) (fun m k p _ e => by rw [(p.reviewLine_standing k).2 m, if_neg e]) p trivial l
    rw [ht, (q.reviewLine_standing l).2 l, if_pos rfl]
    obtain ⟨hs, hx⟩ := Prod.mk.inj hq
    simp only [Line.reviewed, Line.standing, hs, hx]

/-- Where one line is enabled, the review is that line's. -/
theorem Part.classReview_single (p : Part) (l : LineId) (h : ∀ m, m ≠ l → (p.line m).state = .disabled) :
    p.forLines (fun l p => p.reviewLine l) = p.reviewLine l := by
  refine p.forLines_single _ l (fun m e => p.reviewLine_disabled m (h m e)) (fun m e => ?_)
  have hm := (p.reviewLine_standing l).2 m
  rw [if_neg e] at hm
  exact Part.reviewLine_disabled _ m ((congrArg Prod.fst hm).trans (h m e))

/-- Settles O13. -/
theorem classReviewSetsClasses : Obligations.ClassReviewSetsClasses := by
  unfold Obligations.ClassReviewSetsClasses
  intro s review hr hd hrev
  obtain rfl : review = Slicer.review := funext fun x => (hrev x _ rfl).trans (x.review_eq _ rfl).symm
  refine ⟨fun hs => ?lost, fun hs => ?running, ?single⟩
  case lost => exact exec_classReview_lost s hr hd hs
  case running =>
    have hexec := exec_classReview_running s hr hd hs
    obtain ⟨hb, hl⟩ := s.part.reviewTaken.classReview_standings
    generalize s.part.reviewTaken.forLines (fun l p => p.reviewLine l) = q at hexec hb hl
    refine ⟨s.withPart q, hexec, hb, fun l => ⟨fun hx => ?_, fun hx => ?_⟩⟩
    · obtain ⟨hstate, hslicer⟩ := Prod.mk.inj ((hl l).trans (if_pos hx))
      exact ⟨hstate.trans hx, hslicer⟩
    · exact (Prod.mk.inj ((hl l).trans (if_neg hx))).symm
  case single =>
    intro l x y p hs ho hx he hy hp q hq
    have hexec := exec_classReview_running s hr hd hs
    rw [Part.classReview_single s.part.reviewTaken l ho] at hexec
    subst hx hy hp
    have hcl : s.part.reviewTaken.classed l = q := by rw [hq, Part.classed_eq]; rfl
    refine ⟨fun hc => ?_, fun hc hs => ?_, fun hc hs => ?_⟩
    · rw [hexec, Part.reviewLine_sound s.part.reviewTaken l he hc, hcl]
    · rw [hexec, Part.reviewLine_settling s.part.reviewTaken l hs hc, hcl]
      rfl
    · rw [hexec, Part.reviewLine_fault s.part.reviewTaken l he hs hc, hcl]
      rfl

end Sys2Proof.Machine
end

section
/-!
PROOF. INJECT (R90 to R92): the symbols of a list stored one after the other, as one write and the reports in list order, and
the lists that are refused.
-/
namespace Sys2Proof.Machine

/-! ### Cells stored at the tail of a queue -/

/-- The part with cells placed at the tail of a line's queue, the last of them with the digit index `i` (R77, R91). -/
def Part.stored (p : Part) (l : LineId) (i : Nat) (cs : List Cell) : Part :=
  { p.setLine l { p.line l with digitIndex := i, queue := (p.line l).queue ++ cs } with free := p.free - cs.length }

@[simp] theorem Part.stored_line (p : Part) (l : LineId) (i : Nat) (cs : List Cell) :
    (p.stored l i cs).line l = { p.line l with digitIndex := i, queue := (p.line l).queue ++ cs } :=
  p.line_setLine_self l _

/-- No cell stored, and the index the line has: nothing changes. -/
theorem Part.stored_nil (p : Part) (l : LineId) : p.stored l (p.line l).digitIndex [] = p := by
  simp only [Part.stored, List.append_nil]
  exact p.setLine_line l

/-- Cells stored in two turns are stored in one. -/
theorem Part.stored_stored (p : Part) (l : LineId) (i j : Nat) (cs ds : List Cell) :
    (p.stored l i cs).stored l j ds = p.stored l j (cs ++ ds) := by
  have hf : p.free - cs.length - ds.length = p.free - (cs ++ ds).length := by
    rw [List.length_append, Nat.sub_sub]
  rw [Part.stored, Part.stored_line, List.append_assoc]
  change ({ (p.setLine l _).setLine l _ with free := p.free - cs.length - ds.length } : Part) = _
  rw [Part.setLine_setLine, hf]
  rfl

theorem Part.stored_reportBoth (p : Part) (l : LineId) (i : Nat) (cs : List Cell) (b : ReportBody) :
    (p.reportBoth b).stored l i cs = (p.stored l i cs).reportBoth b := rfl

/-! ### The symbols of an INJECT -/

/-- The `n` digit indexes that follow `i` (R77). -/
def indexesAfter (i n : Nat) : List Nat := (List.range n).map (fun k => nextIndex^[k + 1] i)

theorem indexesAfter_succ (i n : Nat) : indexesAfter i (n + 1) = nextIndex i :: indexesAfter (nextIndex i) n := by
  simp only [indexesAfter, List.range_succ_eq_map, List.map_cons, List.map_map]
  rfl

theorem indexesAfter_length (i n : Nat) : (indexesAfter i n).length = n := by simp [indexesAfter]

/-- The cell of an injected symbol with its index (R75, R91). -/
def injectedCell (stamp : Half) (xi : Symbol × Nat) : Cell := ⟨xi.1, .injected, none, none, xi.2, stamp, false⟩

/-- The DIGIT report of an injected symbol with its index (R91). -/
def injectedReport (lk : LinkId) (l : LineId) (xi : Symbol × Nat) : ReportBody :=
  .digit l xi.1 .injected none none none xi.2 (some lk)

theorem Part.injectOne_eq (p : Part) (lk : LinkId) (l : LineId) (x : Symbol) :
    p.injectOne lk l x = (p.stored l (nextIndex (p.line l).digitIndex)
      [injectedCell p.stamp (x, nextIndex (p.line l).digitIndex)]).reportBoth
        (injectedReport lk l (x, nextIndex (p.line l).digitIndex)) := by
  simp only [Part.injectOne, Part.enqueue, Part.updLine, Part.line_setLine_self, Part.setLine_setLine]
  rfl

/-- The symbols of a list taken in turn: all their cells stored, and then their reports in list order (R91). -/
theorem Part.foldl_injectOne (lk : LinkId) (l : LineId) (xs : List Symbol) (p : Part) (is : List Nat)
    (hi : is = indexesAfter (p.line l).digitIndex xs.length) :
    xs.foldl (fun q x => q.injectOne lk l x) p
      = (xs.zip is).foldl (fun q xi => q.reportBoth (injectedReport lk l xi))
        (p.stored l (is.getLastD (p.line l).digitIndex) ((xs.zip is).map (injectedCell p.stamp))) := by
  induction xs generalizing p is with
  | nil =>
    subst hi
    exact (p.stored_nil l).symm
  | cons x xs ih =>
    rw [List.length_cons, indexesAfter_succ] at hi
    subst hi
    have hline : ((p.injectOne lk l x).line l).digitIndex = nextIndex (p.line l).digitIndex := by
      rw [p.injectOne_eq, Part.line_reportBoth, Part.stored_line]
    have hstamp : (p.injectOne lk l x).stamp = p.stamp := by rw [p.injectOne_eq]; rfl
    rw [List.foldl_cons, ih (p.injectOne lk l x) _ (by rw [hline]), hline, hstamp, p.injectOne_eq,
      Part.stored_reportBoth, Part.stored_stored, List.getLastD_cons]
    rfl

theorem Part.injectAll_digitIndex (p : Part) (lk : LinkId) (l : LineId) (xs : List Symbol) :
    ((p.injectAll lk l xs).line l).digitIndex
      = (indexesAfter (p.line l).digitIndex xs.length).getLastD (p.line l).digitIndex := by
  have hr : ∀ (bs : List (Symbol × Nat)) (q : Part),
      ((bs.foldl (fun q xi => q.reportBoth (injectedReport lk l xi)) q).line l) = q.line l :=
    fun bs q => foldl_keeps (fun r : Part => r.line l = q.line l) _ (fun r b h => (r.line_reportBoth _ l).trans h) bs q rfl
  rw [Part.injectAll, Line.sameAside_digitIndex ((Part.judge_sameAside _ l).line l),
    Part.foldl_injectOne lk l xs p _ rfl, hr, Part.stored_line]

/-! ### The row -/

/-- INJECT of a list with a code above 15, for an ACTIVE line (R90). -/
theorem Part.injectCommand_unknown (p : Part) (lk : LinkId) (l : LineId) (codes : List Byte) (ht : p.takes lk)
    (hs : (p.line l).state = .active) (h : symbolsOf codes = none) :
    p.injectCommand lk (lowChar l.val) codes = p.reject lk .range 0x0C (lowChar l.val) := by
  rw [Part.injectCommand, Part.lineCommand_line _ _ _ _ _ ht, Part.inStates_in _ _ _ _ _ _ _ (by simp [hs])]
  simp only [h]

/-- INJECT of a list of symbols, for an ACTIVE line: the list's length is judged, and then the room (R90). -/
theorem Part.injectCommand_symbols (p : Part) (lk : LinkId) (l : LineId) (codes : List Byte) (xs : List Symbol)
    (ht : p.takes lk) (hs : (p.line l).state = .active) (h : symbolsOf codes = some xs) :
    p.injectCommand lk (lowChar l.val) codes
      = if xs.length < 1 ∨ 16 < xs.length then p.reject lk .range 0x0C (lowChar l.val)
        else p.injectSymbols lk (lowChar l.val) l xs := by
  rw [Part.injectCommand, Part.lineCommand_line _ _ _ _ _ ht, Part.inStates_in _ _ _ _ _ _ _ (by simp [hs])]
  simp only [h]

theorem exec_inject_ready (s : State) (lk : LinkId) (line : Byte) (codes : List Byte) (h : s.ready) :
    exec (.inject lk line codes) s = .next (s.withPart (s.part.injectCommand lk line codes)) :=
  exec_command_ready _ lk _ _ s h rfl

theorem Part.injectSymbols_room (p : Part) (lk : LinkId) (b : Byte) (l : LineId) (xs : List Symbol)
    (h : ¬ (p.room l < xs.length ∨ p.free < xs.length)) :
    p.injectSymbols lk b l xs = (p.injectAll lk l xs).ack lk 0x0C (some b)
      (indexDetail (nextIndex (p.line l).digitIndex) ((p.injectAll lk l xs).line l).digitIndex) := by
  simp only [Part.injectSymbols, if_neg h]

/-- Settles O29, from the fold of the symbols as one write and the reports in list order. -/
theorem injectEnqueuesAllItsSymbols : Obligations.InjectEnqueuesAllItsSymbols := by
  unfold Obligations.InjectEnqueuesAllItsSymbols
  intro s lk l xs is next hnext hr ht hs h1 h16 hroom hfree his
  obtain rfl : next = nextIndex := funext fun i => by rw [hnext, nextIndex]; split <;> split <;> omega
  have hi : is = indexesAfter (s.part.line l).digitIndex xs.length := his
  have hlen : ¬ (xs.length < 1 ∨ 16 < xs.length) := by omega
  have hfits : ¬ (s.part.room l < xs.length ∨ s.part.free < xs.length) := by
    rw [Part.room]
    omega
  obtain ⟨n, hn⟩ : ∃ n, xs.length = n + 1 := ⟨xs.length - 1, by omega⟩
  have hcons : is = nextIndex (s.part.line l).digitIndex :: indexesAfter (nextIndex (s.part.line l).digitIndex) n := by
    rw [hi, hn, indexesAfter_succ]
  have hfirst : nextIndex (s.part.line l).digitIndex = is.headD 0 := by rw [hcons]; rfl
  have hlast : is.getLastD (s.part.line l).digitIndex = is.getLastD 0 := by rw [hcons]; rfl
  have hzip : ((xs.zip is).map (injectedCell s.part.stamp)).length = xs.length := by
    simp [hi, indexesAfter_length]
  rw [exec_inject_ready s lk _ _ hr, Part.injectCommand_symbols _ lk l _ xs ht hs (symbolsOf_symbolCodes xs),
    if_neg hlen, Part.injectSymbols_room _ _ _ _ _ hfits, Part.injectAll_digitIndex, ← hi, Part.injectAll,
    Part.foldl_injectOne lk l xs s.part is hi, hfirst, hlast, Part.stored, hzip]
  rfl

/-! ### Lists that are refused -/

/-- A list of codes names symbols, as many, unless one of its codes is above 15 (R90). -/
theorem symbolsOf_cases (codes : List Byte) :
    ((∃ x ∈ codes, 16 ≤ x.toNat) ∧ symbolsOf codes = none)
    ∨ ((∀ x ∈ codes, x.toNat < 16) ∧ ∃ xs, symbolsOf codes = some xs ∧ xs.length = codes.length) := by
  induction codes with
  | nil => exact Or.inr ⟨by simp, [], rfl, rfl⟩
  | cons b bs ih =>
    by_cases hb : b.toNat < 16
    · have hx : symbolOf b = some ⟨b.toNat, hb⟩ := dif_pos hb
      rcases ih with ⟨⟨x, hm, hx16⟩, hn⟩ | ⟨hall, xs, hxs, hl⟩
      · exact Or.inl ⟨⟨x, List.mem_cons_of_mem b hm, hx16⟩, by simp only [symbolsOf, hx, hn]⟩
      · exact Or.inr ⟨List.forall_mem_cons.2 ⟨hb, hall⟩, ⟨b.toNat, hb⟩ :: xs, by simp only [symbolsOf, hx, hxs],
          congrArg (· + 1) hl⟩
    · have hx : symbolOf b = none := dif_neg hb
      exact Or.inl ⟨⟨b, List.mem_cons_self, by omega⟩, by simp only [symbolsOf, hx]⟩

/-- Settles O30. -/
theorem injectIsRefusedWhole : Obligations.InjectIsRefusedWhole := by
  unfold Obligations.InjectIsRefusedWhole
  intro s lk l codes hr ht hs
  rw [exec_inject_ready s lk _ codes hr]
  rcases symbolsOf_cases codes with ⟨⟨x, hx, hx16⟩, hn⟩ | ⟨hall, xs, hxs, hl⟩
  · refine ⟨fun _ => by rw [Part.injectCommand_unknown _ lk l codes ht hs hn]; rfl, fun _ _ hall => ?_⟩
    have := hall x hx
    omega
  · rw [Part.injectCommand_symbols _ lk l codes xs ht hs hxs, hl]
    refine ⟨fun hout => ?_, fun h1 h16 _ hfull => ?_⟩
    · have hlen : codes.length < 1 ∨ 16 < codes.length := by
        rcases hout with h0 | h16 | ⟨x, hx, hx16⟩
        · omega
        · exact Or.inr h16
        · have := hall x hx
          omega
      rw [if_pos hlen]
      rfl
    · have hroom : s.part.room l < xs.length ∨ s.part.free < xs.length := by
        rw [Part.room]
        omega
      rw [if_neg (by omega), Part.injectSymbols, if_pos hroom]
      rfl

end Sys2Proof.Machine
end

section
/-!
PROOF. The phases of a burst and its abort (R84, R85, R100 to R105, R109): each as the writes that it makes of the line and of
the sender.
-/
namespace Sys2Proof.Machine

/-! ### The head cell, written -/

theorem Part.commit_cons (p : Part) (l : LineId) (k : SenderId) (m : Manner) (y : Cell) (rest : List Cell)
    (h : (p.line l).queue = y :: rest) :
    p.commit l k m = ({ p.setLine l { p.line l with queue := rest } with free := p.free + 1 } : Part).reportBoth
      (.digitSent l k m y) := by
  simp only [Part.commit, h]

theorem Part.restoreHead_cons (p : Part) (l : LineId) (y : Cell) (rest : List Cell) (h : (p.line l).queue = y :: rest) :
    p.restoreHead l = p.setLine l { p.line l with queue := { y with sending := false } :: rest } := by
  simp only [Part.restoreHead, h]

theorem Part.continueBurst_cons (p : Part) (l : LineId) (k : SenderId) (y : Cell) (rest : List Cell)
    (h : (p.line l).queue = y :: rest) :
    p.continueBurst l k = (p.setLine l { p.line l with
      runCount := min 16 ((p.line l).runCount + 1), queue := { y with sending := true } :: rest }).setSender k
        (burstStart l y.symbol (p.profileOfLine l).capture) := by
  simp only [Part.continueBurst, h]

/-- A line just written gives up its sender: the two writes are one. -/
theorem Part.freeSender_setLine (p : Part) (l : LineId) (k : SenderId) (x : Line) :
    (p.setLine l x).freeSender l k
      = (p.setLine l { x with sender := none, runCount := 0 }).setSender k Sender.freed := by
  rw [Part.freeSender, Part.line_setLine_self, Part.setLine_setLine]

theorem Sender.pastCommit_iff (x : Sender) (c : Captured) (h : x.captured = some c) :
    x.pastCommit = true ↔ 8 * c.commit ≤ x.elapsed := by
  simp [Sender.pastCommit, h]

/-! ### The abort -/

/-- The abort of a held sender is the abort without the grant test, and then the grant test (R109). -/
theorem Part.abort_held (p : Part) (l : LineId) (k : SenderId) (h : (p.line l).sender = some k) :
    p.abort l = ((p.abortCell l k).freeSender l k).grantTest := by
  simp only [Part.abort, Part.abortOnly, h]

/-- Settles O33, from what the abort does to the head cell in each phase. -/
theorem abortCommitsFromTheCommitPoint : Obligations.AbortCommitsFromTheCommitPoint := by
  unfold Obligations.AbortCommitsFromTheCommitPoint
  intro p l k x c y rest hk hx hc hq
  subst hx
  have hpast := (p.sender k).pastCommit_iff c hc
  rw [p.abort_held l k hk]
  refine ⟨fun hs hle => ?_, fun hs hlt => ?_, fun hs => ?_⟩
  · have hcell : p.abortCell l k = p.commit l k .atAbort := by
      simp only [Part.abortCell, hs, if_pos (hpast.2 hle)]
    rw [hcell, p.commit_cons l k _ y rest hq, Part.freeSender, Part.line_reportBoth]
    change ((Part.setLine _ l { ((p.setLine l _).line l) with sender := none, runCount := 0 }).setSender k _).grantTest = _
    rw [Part.line_setLine_self]
  · have hcell : p.abortCell l k = p.restoreHead l := by
      simp only [Part.abortCell, hs, if_neg (fun hp => absurd (hpast.1 hp) (by omega))]
    rw [hcell, p.restoreHead_cons l y rest hq, Part.freeSender_setLine]
  · have hcell : p.abortCell l k = p := by simp only [Part.abortCell, hs]
    rw [hcell]
    rfl

/-! ### The ends of the phases -/

theorem Part.onPhaseEnd_done (p : Part) (k : SenderId) (c : Captured) (l : LineId)
    (hs : (p.sender k).state = .toneOn) (hc : (p.sender k).captured = some c) (hl : (p.sender k).line = some l)
    (he : 8 * c.tOn ≤ (p.sender k).elapsed) :
    p.onPhaseEnd k = (p.commit l k .endOfTone).setSender k (p.sender k).toOff := by
  have hd : (p.sender k).onPhaseDone = true := by
    simp only [Sender.onPhaseDone, hs, hc]
    exact decide_eq_true he
  simp only [Part.onPhaseEnd, hd, hl]

theorem Part.toneOffEnd_done (p : Part) (k : SenderId) (c : Captured) (l : LineId)
    (hs : (p.sender k).state = .toneOff) (hc : (p.sender k).captured = some c) (hl : (p.sender k).line = some l)
    (he : 8 * c.tOff ≤ (p.sender k).elapsed) :
    p.toneOffEnd k = if p.continues l then p.continueBurst l k else p.release l k := by
  have hd : (p.sender k).offPhaseDone = true := by
    simp only [Sender.offPhaseDone, hs, hc]
    exact decide_eq_true he
  simp only [Part.toneOffEnd, hd, hl]

/-- A head cell that is QUEUED (R82). -/
theorem Line.headQueued_iff (x : Line) : x.headQueued = true ↔ ∃ y rest, x.queue = y :: rest ∧ y.sending = false := by
  unfold Line.headQueued
  cases x.queue <;> simp

/-- The line can send, and its run or the grant queue lets it go on (R104). -/
theorem Part.continues_iff (p : Part) (l : LineId) :
    p.continues l = true ↔ (p.line l).state = .active ∧ (p.line l).gate = .open
      ∧ (∃ y rest, (p.line l).queue = y :: rest ∧ y.sending = false)
      ∧ ((p.line l).runCount < p.globals.runLimit ∨ p.grantQueue = []) := by
  simp only [Part.continues, Line.canSend, Bool.and_eq_true, Bool.or_eq_true, decide_eq_true_eq, Line.headQueued_iff,
    List.isEmpty_iff, and_assoc]

theorem exec_onPhaseEnd_ready (s : State) (k : SenderId) (h : s.ready) :
    exec (.onPhaseEnd k) s = .next (s.withPart (s.part.onPhaseEnd k)) := by
  change Host.Outcome.next (s.onPart (fun p => p.settleUrgent.onPhaseEnd k)) = _
  rw [State.onPart_working s _ h.1, s.part.settleUrgent_settled h.2]
  rfl

theorem exec_toneOffEnd_ready (s : State) (k : SenderId) (h : s.ready) :
    exec (.toneOffEnd k) s = .next (s.withPart (s.part.toneOffEnd k)) := by
  change Host.Outcome.next (s.onPart (fun p => p.settleUrgent.toneOffEnd k)) = _
  rw [State.onPart_working s _ h.1, s.part.settleUrgent_settled h.2]
  rfl

/-- Settles O32, from the end of each phase as the writes that it makes. -/
theorem burstPhasesEnd : Obligations.BurstPhasesEnd := by
  unfold Obligations.BurstPhasesEnd
  intro s k x c l z r hr hx hc hl hz hp
  subst hx hz hp
  rw [exec_onPhaseEnd_ready s k hr, exec_toneOffEnd_ready s k hr]
  refine ⟨fun y rest hs he hq => ?_, fun goesOn hs he hgo => ?_⟩
  · rw [s.part.onPhaseEnd_done k c l hs hc hl he, Part.commit_cons _ l k _ y rest hq]
    rfl
  · have hgo' : goesOn ↔ s.part.continues l = true := hgo.trans (s.part.continues_iff l).symm
    rw [s.part.toneOffEnd_done k c l hs hc hl he]
    refine ⟨fun y rest hg hq => ?_, fun hg => ?_⟩
    · rw [if_pos (hgo'.1 hg), Part.continueBurst_cons _ l k y rest hq]
      rfl
    · rw [if_neg (fun h => hg (hgo'.2 h))]
      rfl

end Sys2Proof.Machine
end

section
/-!
PROOF. Every cell is accounted for (R74, R76, R78). The account rests on one lemma about a line's queue written anew
(`Part.accounted.move`); commit, flush and enqueue are its uses that move cells, and every other operation leaves all
cells where they are. One lemma for each operation, named after it.
-/
namespace Sys2Proof.Machine

/-! ### The account of the cells -/

/-- Every cell is free or queued, and no queue or cap is above 32: `Part.poolKept`, with its parts named. -/
structure Part.accounted (p : Part) : Prop where
  total : p.free + p.queued = 256
  lengths : ∀ l, (p.line l).queue.length ≤ 32
  cap : p.globals.lineCap ≤ 32

theorem Part.accounted_iff (p : Part) : p.accounted ↔ p.poolKept :=
  ⟨fun ⟨h1, h2, h3⟩ => ⟨h1, h2, h3⟩, fun ⟨h1, h2, h3⟩ => ⟨h1, h2, h3⟩⟩

/-- Writing a line moves the number of queued cells by that line's alone. -/
theorem Part.queued_setLine (p : Part) (l : LineId) (x : Line) :
    (p.setLine l x).queued + (p.line l).queue.length = p.queued + x.queue.length := by
  obtain ⟨before, after, he, hb, ha⟩ := allLines_split l
  have hsame : ∀ ls : List LineId, l ∉ ls →
      ls.map (fun m => ((p.setLine l x).line m).queue.length) = ls.map (fun m => (p.line m).queue.length) :=
    fun ls hl => List.map_congr_left (fun m hm => by rw [p.line_setLine_ne l m x (fun e => hl (e ▸ hm))])
  simp only [Part.queued, he, List.map_append, List.map_cons, List.sum_append, List.sum_cons, hsame before hb,
    hsame after ha, Part.line_setLine_self]
  omega

section
variable {p : Part} (h : p.accounted)
include h

/-- What stands in the queues, in the free set and in the cap decides the account. -/
theorem Part.accounted.of_lengths {q : Part} (hl : ∀ l, (q.line l).queue.length = (p.line l).queue.length)
    (hf : q.free = p.free) (hg : q.globals = p.globals) : q.accounted := by
  have hq : q.queued = p.queued := by simp only [Part.queued, hl]
  exact ⟨by rw [hf, hq]; exact h.total, fun l => by rw [hl]; exact h.lengths l, by rw [hg]; exact h.cap⟩

/-- What touches neither lines nor free set nor globals leaves every cell where it is. -/
theorem Part.accounted.beside {q : Part} (hl : q.lines = p.lines) (hf : q.free = p.free) (hg : q.globals = p.globals) :
    q.accounted :=
  h.of_lengths (fun l => by simp only [Part.line, hl]) hf hg

/-- What leaves a record with the line's queue at one line, and touches nothing else but the report queues. -/
theorem Part.accounted.leavesAt {q : Part} {l : LineId} {y : Line} (k : p.leavesAt l y q)
    (hy : y.queue = (p.line l).queue) : q.accounted := by
  refine h.of_lengths (fun m => ?_) k.1.rest.free k.1.rest.globals
  by_cases e : m = l
  · rw [e, k.2, hy]
  · rw [k.1.others m e]

/-- A line's queue written anew, the free set paying for what it gains and taking what it loses. -/
theorem Part.accounted.move (l : LineId) (x : Line) (n : Nat)
    (hn : n + x.queue.length = p.free + (p.line l).queue.length) (hx : x.queue.length ≤ 32) :
    ({ p.setLine l x with free := n } : Part).accounted := by
  have hq := p.queued_setLine l x
  refine ⟨?_, fun m => ?_, h.cap⟩
  · change n + (p.setLine l x).queued = 256
    have ht := h.total
    omega
  · change ((p.setLine l x).line m).queue.length ≤ 32
    by_cases e : m = l
    · rw [e, Part.line_setLine_self]
      exact hx
    · rw [Part.line_setLine_ne _ _ _ _ e]
      exact h.lengths m

theorem Part.accounted.setLine (l : LineId) (x : Line) (hx : x.queue.length = (p.line l).queue.length) :
    (p.setLine l x).accounted :=
  h.move l x p.free (by rw [hx]) (hx ▸ h.lengths l)

theorem Part.accounted.updLine (l : LineId) (f : Line → Line) (hf : (f (p.line l)).queue = (p.line l).queue) :
    (p.updLine l f).accounted :=
  h.setLine l _ (congrArg List.length hf)

/-! ### Updates of other blocks, and reports -/

theorem Part.accounted.setSender (k : SenderId) (x : Sender) : (p.setSender k x).accounted := h.beside rfl rfl rfl
theorem Part.accounted.setTimeBase (f : TimeBase → TimeBase) : (p.setTimeBase f).accounted := h.beside rfl rfl rfl
theorem Part.accounted.setTraceSlot (i : SlotId) (o : Option LineId) : (p.setTraceSlot i o).accounted :=
  h.beside rfl rfl rfl
theorem Part.accounted.setScan (c : Scan) : ({ p with scan := c } : Part).accounted := h.beside rfl rfl rfl
theorem Part.accounted.setGrantQueue (ls : List LineId) : ({ p with grantQueue := ls } : Part).accounted :=
  h.beside rfl rfl rfl
theorem Part.accounted.updLink (lk : LinkId) (f : Link → Link) : (p.updLink lk f).accounted :=
  h.beside (p.updLink_lines lk f) (p.updLink_free lk f) (p.updLink_globals lk f)
theorem Part.accounted.report (lk : LinkId) (b : ReportBody) : (p.report lk b).accounted := h.updLink lk _
theorem Part.accounted.reportBoth (b : ReportBody) : (p.reportBoth b).accounted := (h.report .a b).report .b b
theorem Part.accounted.ack (lk : LinkId) (k : Byte) (i : Option Byte) (d : Half) : (p.ack lk k i d).accounted :=
  h.report lk _
theorem Part.accounted.reject (lk : LinkId) (r : RejectReason) (k i : Byte) : (p.reject lk r k i).accounted :=
  h.report lk _
theorem Part.accounted.lineStateReport (l : LineId) (st : LineState) (c : LineCause) (lk : Option LinkId) (n : Nat) :
    (p.lineStateReport l st c lk n).accounted := h.reportBoth _
theorem Part.accounted.traceReport (l : LineId) (a : Loop) (n : Nat) (v : Verdict) : (p.traceReport l a n v).accounted :=
  h.beside (p.traceReport_lines l a n v) (p.traceReport_free l a n v) (p.traceReport_globals l a n v)

/-! ### The store and the pool (chapters 04 and 05) -/

theorem Part.accounted.grant (l : LineId) (k : SenderId) : (p.grant l k).accounted := by
  unfold Part.grant
  split
  · exact h
  · next y rest hy => exact (h.setLine l _ (by rw [hy]; rfl)).setSender k _

theorem Part.accounted.grantOnce : p.grantOnce.accounted := by
  rcases p.grantOnce_cases with ⟨l, rest, k, -, -, -, e⟩ | e <;> rw [e]
  · exact (h.setGrantQueue rest).grant l k
  · exact h

theorem Part.accounted.grantTest : p.grantTest.accounted :=
  Part.grantTest_keeps Part.accounted (fun _ hq => hq.grantOnce) p h

theorem Part.accounted.judge (l : LineId) : (p.judge l).accounted :=
  Part.judge_keeps Part.accounted (fun _ hq => hq.grantOnce) l (fun _ hq _ => hq.setGrantQueue _) p h

theorem Part.accounted.leaveGrantQueue (l : LineId) : (p.leaveGrantQueue l).accounted := h.setGrantQueue _

/-- A commit gives the head cell back to the free set (R84). -/
theorem Part.accounted.commit (l : LineId) (k : SenderId) (m : Manner) : (p.commit l k m).accounted := by
  cases hq : (p.line l).queue with
  | nil => simpa only [Part.commit, hq] using h
  | cons y rest =>
    have hl := h.lengths l
    rw [hq, List.length_cons] at hl
    rw [p.commit_cons l k m y rest hq]
    refine (h.move l _ _ ?_ (Nat.le_of_succ_le hl)).reportBoth _
    change p.free + 1 + rest.length = p.free + (p.line l).queue.length
    rw [hq, List.length_cons]
    omega

/-- A flush gives every cell of the queue back to the free set (R86). -/
theorem Part.accounted.flush (l : LineId) : (p.flush l).accounted := h.move l _ _ rfl (Nat.zero_le 32)

/-- Cells are stored where the free set holds them and the queue stays within 32 (R76). -/
theorem Part.accounted.stored (l : LineId) (i : Nat) (cs : List Cell) (hf : cs.length ≤ p.free)
    (hl : (p.line l).queue.length + cs.length ≤ 32) : (p.stored l i cs).accounted := by
  refine h.move l _ _ ?_ ?_ <;> simp only [List.length_append] <;> omega

/-- A cell is enqueued where the free set holds one and the queue is below the cap (R78). -/
theorem Part.accounted.enqueue (l : LineId) (c : Cell) (hf : 0 < p.free)
    (hl : (p.line l).queue.length < p.globals.lineCap) : (p.enqueue l c).accounted :=
  h.stored l (p.line l).digitIndex [c] hf (Nat.le_trans hl h.cap)

theorem Part.accounted.restoreHead (l : LineId) : (p.restoreHead l).accounted := by
  unfold Part.restoreHead
  split
  · exact h
  · next y rest hy => exact h.setLine l _ (by rw [hy]; rfl)

theorem Part.accounted.freeSender (l : LineId) (k : SenderId) : (p.freeSender l k).accounted :=
  (h.setLine l { p.line l with sender := none, runCount := 0 } rfl).setSender k _

theorem Part.accounted.abortOnly (l : LineId) : (p.abortOnly l).accounted := by
  cases hk : (p.line l).sender with
  | none => simpa only [Part.abortOnly, hk] using h
  | some k =>
    rcases p.abortOnly_cases l k hk with ⟨-, -, e⟩ | ⟨-, -, e⟩ | ⟨-, e⟩ <;> rw [e]
    · exact (h.commit l k _).freeSender l k
    · exact (h.restoreHead l).freeSender l k
    · exact h.freeSender l k

theorem Part.accounted.abort (l : LineId) : (p.abort l).accounted := by
  unfold Part.abort
  split
  · exact h
  · exact (h.abortOnly l).grantTest

theorem Part.accounted.continueBurst (l : LineId) (k : SenderId) : (p.continueBurst l k).accounted := by
  unfold Part.continueBurst
  split
  · exact h
  · next y rest hy => exact (h.setLine l _ (by rw [hy]; rfl)).setSender k _

theorem Part.accounted.onPhaseEnd (k : SenderId) : (p.onPhaseEnd k).accounted := by
  unfold Part.onPhaseEnd
  split
  · exact (h.commit _ k _).setSender k _
  · exact h

theorem Part.accounted.toneOffEnd (k : SenderId) : (p.toneOffEnd k).accounted := by
  unfold Part.toneOffEnd
  split
  · split
    · exact h.continueBurst _ k
    · exact ((h.freeSender _ k).judge _).grantTest
  · exact h

/-- A dialled digit is enqueued where it is not lost (R78). -/
theorem Part.accounted.offerDigit (l : LineId) (x : Symbol) (n : Nat) (mean : Option Nat) (c : ConventionId) :
    (p.offerDigit l x n mean c).accounted := by
  have hk := Part.leavesAt_reportBoth (Part.leavesAt_updLine (p.leavesAt_refl l)
    (fun y => { y with digitIndex := nextIndex (p.line l).digitIndex }))
    (.digit l x .dialled (some n) mean (some c) (nextIndex (p.line l).digitIndex) none)
  have hq := h.leavesAt hk rfl
  have hlen := congrArg (fun y => y.queue.length) hk.2
  unfold Part.offerDigit
  dsimp only at hlen ⊢
  generalize Part.reportBoth _ _ = q at hq hlen ⊢
  rcases q.lossReason_cases (p.line l).queue.length with ⟨e, -⟩ | ⟨e, -, -⟩ | ⟨e, hcap, hfree⟩ <;> simp only [e]
  · exact hq.reportBoth _
  · exact hq.reportBoth _
  · exact (hq.enqueue l _ hfree (by rwa [hlen])).judge l

/-- The symbols of an INJECT are enqueued where the free set holds their cells and the line has room (R90, R91). -/
theorem Part.accounted.injectSymbols (lk : LinkId) (b : Byte) (l : LineId) (xs : List Symbol) :
    (p.injectSymbols lk b l xs).accounted := by
  by_cases hn : p.room l < xs.length ∨ p.free < xs.length
  · rw [Part.injectSymbols, if_pos hn]
    exact h.report lk _
  · have hs : ∀ i cs, cs.length = xs.length → (p.stored l i cs).accounted := by
      intro i cs hcs
      have hl := h.lengths l
      have hc := h.cap
      rw [Part.room] at hn
      exact h.stored l i cs (by omega) (by omega)
    rw [p.injectSymbols_room lk b l xs hn, Part.injectAll, Part.foldl_injectOne lk l xs p _ rfl]
    refine ((foldl_keeps Part.accounted _ (fun _ _ hq => hq.reportBoth _) _ _ (hs _ _ ?_)).judge l).ack lk _ _ _
    rw [List.length_map, List.length_zip, indexesAfter_length, Nat.min_self]

/-! ### The supervisor (chapter 03) -/

theorem Part.accounted.startTimer (l : LineId) (k : TimerKind) : (p.startTimer l k).accounted := h.updLine l _ rfl
theorem Part.accounted.dropDigit (l : LineId) : (p.dropDigit l).accounted := h.updLine l _ rfl
theorem Part.accounted.stopTimer (l : LineId) : (p.stopTimer l).accounted := h.updLine l _ rfl
theorem Part.accounted.raiseFlaps (l : LineId) : (p.raiseFlaps l).accounted := h.updLine l _ rfl
theorem Part.accounted.enterState (l : LineId) (st : LineState) : (p.enterState l st).accounted := h.updLine l _ rfl

theorem Part.accounted.enterWithTimer (l : LineId) (st : LineState) : (p.enterWithTimer l st).accounted := by
  unfold Part.enterWithTimer
  split
  · exact h.enterState l st
  · exact (h.enterState l st).startTimer l _

theorem Part.accounted.seize (l : LineId) : (p.seize l).accounted := (h.updLine l _ rfl).enterWithTimer l .active

theorem Part.accounted.giveUpSender (l : LineId) : (p.giveUpSender l).accounted := (h.abort l).leaveGrantQueue l

/-- The steps of R59 commit, restore and flush, and lose no cell. -/
theorem Part.accounted.leaveFor (l : LineId) (st : LineState) (c : LineCause) (lk : Option LinkId) :
    (p.leaveFor l st c lk).accounted := by
  have hc : (p.clearOut l).accounted := ((h.dropDigit l).stopTimer l).giveUpSender l
  exact ((hc.flush l).enterWithTimer l st).lineStateReport l _ c lk _

theorem Part.accounted.quarantine (l : LineId) (c : LineCause) : (p.quarantine l c).accounted := h.leaveFor l _ c none

theorem Part.accounted.superviseTransition (l : LineId) (new : Loop) : (p.superviseTransition l new).accounted := by
  unfold Part.superviseTransition Part.abandonSeizure
  split
  · exact h.enterWithTimer l .seizing
  · split
    · exact (h.raiseFlaps l).quarantine l .flap
    · exact (h.raiseFlaps l).enterWithTimer l .idle
  · exact h.updLine l _ rfl
  · exact h.startTimer l .settle
  · exact h

theorem Part.accounted.takeClear (l : LineId) : (p.takeClear l).accounted := by
  unfold Part.takeClear
  split
  · split
    · split
      · exact (h.raiseFlaps l).quarantine l .flap
      · exact (h.raiseFlaps l).leaveFor l .idle .clear none
    · exact h.leaveFor l .idle .clear none
  · exact h.leaveFor l .idle .clear none
  · exact h.leaveFor l .idle .clear none
  all_goals exact h

theorem Part.accounted.restExpiry (l : LineId) : (p.restExpiry l).accounted := by
  unfold Part.restExpiry
  split
  · exact h.updLine l _ rfl
  · exact h

theorem Part.accounted.seizeExpiry (l : LineId) : (p.seizeExpiry l).accounted := by
  unfold Part.seizeExpiry
  split
  · exact ((h.seize l).lineStateReport l _ _ _ _).judge l
  · exact h

theorem Part.accounted.firstDigitExpiry (l : LineId) : (p.firstDigitExpiry l).accounted := by
  unfold Part.firstDigitExpiry
  split
  · exact h.leaveFor l _ _ none
  · exact h

theorem Part.accounted.partialExpiry (l : LineId) : (p.partialExpiry l).accounted := by
  unfold Part.partialExpiry
  split
  · exact h.leaveFor l _ _ none
  · exact h

theorem Part.accounted.settleExpiry (l : LineId) : (p.settleExpiry l).accounted := by
  unfold Part.settleExpiry
  split
  · exact (h.enterWithTimer l _).lineStateReport l _ _ _ _
  · exact h

theorem Part.accounted.faultReviewed (l : LineId) : (p.faultReviewed l).accounted := by
  have hq : (if (p.line l).slicer.faultReviews = 8 then p.quarantine l .fault else p).accounted := by
    split
    · exact h.quarantine l .fault
    · exact h
  unfold Part.faultReviewed
  split
  · exact h.startTimer l .settle
  · exact hq
  · exact hq
  · exact hq
  · exact hq
  · exact hq
  · exact h

theorem Part.accounted.reviewLine (l : LineId) : (p.reviewLine l).accounted := by
  have hc : (p.classed l).accounted := h.leavesAt ⟨p.classed_beside l, p.classed_line l⟩ rfl
  by_cases hd : (p.line l).state = .disabled
  · rw [p.reviewLine_disabled l hd]
    exact h
  · rw [p.reviewLine_enabled l hd]
    split
    · exact hc.faultReviewed l
    · exact hc

theorem Part.accounted.classReview : p.classReview.accounted := by
  have hr : p.reviewTaken.accounted := h.beside rfl rfl rfl
  unfold Part.classReview
  dsimp only
  repeat' split
  · exact hr
  · exact Part.forLines_keeps Part.accounted _ (fun l _ hq => hq.reviewLine l) _ hr
  · exact h

/-! ### The decoder (chapter 02) -/

theorem Part.accounted.setTests (l : LineId) (t : SampleTests) : (p.setTests l t).accounted := h.updLine l _ rfl
theorem Part.accounted.accumulate (l : LineId) (t : LineTime) : (p.accumulate l t).accounted := h.updLine l _ rfl
theorem Part.accounted.startRun (l : LineId) (a : Loop) (t : LineTime) : (p.startRun l a t).accounted :=
  h.updLine l _ rfl
theorem Part.accounted.endRun (l : LineId) (new : Loop) (t : LineTime) : (p.endRun l new t).accounted :=
  h.leavesAt (p.endRun_leaves l new t) rfl
theorem Part.accounted.digitErrorReport (l : LineId) (r : DigitErrorReason) (g : Digit) :
    (p.digitErrorReport l r g).accounted := h.reportBoth _

theorem Part.accounted.breakDigit (l : LineId) : (p.breakDigit l).accounted := by
  unfold Part.breakDigit
  split
  · exact h
  · exact (h.dropDigit l).digitErrorReport l _ _

theorem Part.accounted.openRunActive (l : LineId) (v : Verdict) (b : Nat) : (p.openRunActive l v b).accounted := by
  unfold Part.openRunActive
  dsimp only
  split
  · exact (h.updLine l _ rfl).startTimer l _
  · exact h.updLine l _ rfl
  · exact ((h.breakDigit l).reportBoth _).startTimer l _

theorem Part.accounted.openRunConverse (l : LineId) (v : Verdict) (b : Nat) : (p.openRunConverse l v b).accounted := by
  unfold Part.openRunConverse
  split
  · exact h.reportBoth _
  · exact h

theorem Part.accounted.settleOpen (l : LineId) (b : Nat) : (p.settleOpen l b).accounted := by
  unfold Part.settleOpen
  dsimp only
  split
  · exact (h.traceReport l _ b _).openRunActive l _ b
  · exact (h.traceReport l _ b _).openRunConverse l _ b
  · exact h.traceReport l _ b _

theorem Part.accounted.settleClosed (l : LineId) (m : Nat) : (p.settleClosed l m).accounted := by
  unfold Part.settleClosed
  dsimp only
  split
  · exact (h.traceReport l _ m _).updLine l _ rfl
  · exact h.traceReport l _ m _

theorem Part.accounted.settleEnded (l : LineId) : (p.settleEnded l).accounted := by
  unfold Part.settleEnded
  dsimp only
  repeat' split
  · exact h
  · exact Part.accounted.settleOpen (h.updLine l _ rfl) l _
  · exact Part.accounted.settleClosed (h.updLine l _ rfl) l _

theorem Part.accounted.confirmationStage (l : LineId) : (p.confirmationStage l).accounted := by
  unfold Part.confirmationStage
  repeat' split
  · exact Part.accounted.settleEnded ((h.setTests l .limit).updLine l _ rfl) l
  · exact h.setTests l .limit
  · exact h

theorem Part.accounted.endDigit (l : LineId) (g : Digit) : (p.endDigit l g).accounted := by
  unfold Part.endDigit
  dsimp only
  split
  · exact ((h.dropDigit l).digitErrorReport l _ g).startTimer l _
  · exact (((h.dropDigit l).offerDigit l _ _ _ _).updLine l _ rfl).startTimer l _

theorem Part.accounted.gapStage (l : LineId) : (p.gapStage l).accounted := by
  unfold Part.gapStage Part.gapTest
  repeat' split
  · exact ((h.setTests l .made).traceReport l _ _ _).endDigit l _
  · exact h.setTests l .made
  · exact h

theorem Part.accounted.clearStage (l : LineId) : (p.clearStage l).accounted := by
  unfold Part.clearStage Part.clearTest
  repeat' split
  · exact ((h.setTests l .made).traceReport l _ _ _).takeClear l
  · exact h.setTests l .made
  · exact h

/-! ### The links (chapter 08) -/

theorem Part.accounted.dropWaiting (lk : LinkId) : (p.dropWaiting lk).accounted := h.updLink lk _
theorem Part.accounted.linkStart (lk : LinkId) (r : StartReason) : (p.linkStart lk r).accounted := h.report lk _
theorem Part.accounted.failLink (lk : LinkId) (c : PlaneCause) : (p.failLink lk c).accounted :=
  (h.updLink lk _).report lk.other _

theorem Part.accounted.receiveError (lk : LinkId) (e : ErrorInfo) : (p.receiveError lk e).accounted := by
  rcases p.receiveError_cases lk e with ⟨-, k⟩ | ⟨-, k⟩ | ⟨-, k⟩ <;> rw [k]
  · exact h.report lk _
  · exact h.failLink lk _
  · exact h

theorem Part.accounted.auditExpiry (lk : LinkId) : (p.auditExpiry lk).accounted := by
  unfold Part.auditExpiry
  dsimp only
  repeat' split
  · exact ((h.updLink lk _).report lk _).report lk.other _
  · exact h.failLink lk _
  · exact h
  · exact h

theorem Part.accounted.auditReturn (lk : LinkId) (st : LinkState) : (p.auditReturn lk st).accounted := by
  unfold Part.auditReturn
  split
  · exact (h.report lk _).report lk.other _
  · exact h

theorem Part.accounted.auditCommand (lk : LinkId) (ch : Half) : (p.auditCommand lk ch).accounted := by
  have ha : ∀ f st b, (((p.updLink lk f).auditReturn lk st).report lk b).accounted :=
    fun f st b => ((h.updLink lk f).auditReturn lk st).report lk b
  unfold Part.auditCommand
  split
  · exact ((h.updLink lk _).linkStart lk _).report lk.other _
  all_goals
    split
    · exact ha _ _ _
    · exact h.report lk _

theorem Part.accounted.longBreak (lk : LinkId) : (p.longBreak lk).accounted := by
  unfold Part.longBreak
  split
  · exact ((h.updLink lk _).linkStart lk _).report lk.other _
  · exact h

theorem Part.accounted.gapTimerExpiry (lk : LinkId) : (p.gapTimerExpiry lk).accounted := by
  unfold Part.gapTimerExpiry
  split
  · exact (h.updLink lk _).receiveError lk _
  · exact h

theorem Part.accounted.shortBreak (lk : LinkId) : (p.shortBreak lk).accounted := by
  unfold Part.shortBreak
  split
  · exact (h.updLink lk _).receiveError lk _
  · exact h.updLink lk _
  · exact h
  · exact h

theorem Part.accounted.returnToMarking (lk : LinkId) : (p.returnToMarking lk).accounted := by
  unfold Part.returnToMarking
  split
  · exact h.updLink lk _
  · exact h
  · exact h

/-! ### The scan port (chapter 01) -/

theorem Part.accounted.firstSample (l : LineId) (c : Nat) (t : LineTime) : (p.firstSample l c t).accounted := by
  have hr : ∀ a, ((p.updLine l (fun x => x.withSlicer (fun s => s.takeDirect c))).startRun l a t).accounted :=
    fun a => Part.accounted.startRun (h.updLine l _ rfl) l a t
  unfold Part.firstSample
  dsimp only
  split
  · exact (hr _).enterWithTimer l .seizing
  · exact hr _

theorem Part.accounted.debouncedSample (l : LineId) (c : Nat) (t : LineTime) : (p.debouncedSample l c t).accounted := by
  have hs : (p.updLine l (fun x => x.withSlicer (fun s => s.take c))).accounted := h.updLine l _ rfl
  unfold Part.debouncedSample
  dsimp only
  split
  · exact (((hs.endRun l _ _).accumulate l t).superviseTransition l _).setTests l _
  · exact (hs.accumulate l t).setTests l _

theorem Part.accounted.handSample (l : LineId) (c : Nat) (t : LineTime) : (p.handSample l c t).accounted := by
  unfold Part.handSample
  repeat' split
  · exact h
  · exact h.firstSample l c t
  · exact h.debouncedSample l c t

theorem Part.accounted.restoreSample (l : LineId) (c : Nat) (t : LineTime) : (p.restoreSample l c t).accounted := by
  have hr : ∀ a, ((p.updLine l (fun x => x.withSlicer (fun s => s.takeDirect c))).startRun l a t).accounted :=
    fun a => Part.accounted.startRun (h.updLine l _ rfl) l a t
  unfold Part.restoreSample
  dsimp only
  repeat' split
  · exact h
  · exact h.firstSample l c t
  · exact hr _
  · exact (hr _).superviseTransition l _

theorem Part.accounted.handHeld (t : LineTime) : (p.handHeld t).accounted :=
  Part.forLines_keeps Part.accounted _ (fun l _ hq => hq.handSample l _ t) p h

theorem Part.accounted.loseLine (l : LineId) : (p.loseLine l).accounted := by
  unfold Part.loseLine
  split
  · exact h
  · exact h
  · exact ((h.dropDigit l).digitErrorReport l _ _).startTimer l _

theorem Part.accounted.scanMiss (t : LineTime) : (p.scanMiss t).accounted := by
  unfold Part.scanMiss Part.loseScan
  repeat' split
  · exact h
  · exact (h.setScan _).handHeld t
  · exact Part.forLines_keeps Part.accounted _ (fun l _ hq => hq.loseLine l) _ ((h.setScan _).reportBoth _)

theorem Part.accounted.restoreScan (t : LineTime) : (p.restoreScan t).accounted :=
  Part.forLines_keeps Part.accounted _ (fun l _ hq => hq.restoreSample l _ t) _ (h.reportBoth _)

theorem Part.accounted.judgeFrame (bs : List Byte) (t : LineTime) : (p.judgeFrame bs t).accounted := by
  unfold Part.judgeFrame
  dsimp only
  repeat' split
  · exact (h.setScan _).handHeld t
  · exact (h.setScan _).restoreScan t
  · exact h.scanMiss t

theorem Part.accounted.takeScanBytes (bs : List Byte) : (p.takeScanBytes bs).accounted := by
  unfold Part.takeScanBytes
  dsimp only
  repeat' split
  · exact h
  · exact (h.setScan _).judgeFrame _ _
  · exact h.setScan _

theorem Part.accounted.strobe (now : LineTime) : (p.strobe now).accounted := by
  unfold Part.strobe
  dsimp only
  repeat' split
  · exact h.setScan _
  · exact (h.scanMiss _).setScan _
  · exact h.setScan _

/-! ### The commands -/

/-- A command for a line in the states of its rule keeps the account where its effect does (R65, R161). -/
theorem Part.accounted.lineCommand (lk : LinkId) (kind line : Byte) (states : List LineState) {f : LineId → Part → Part}
    (hf : ∀ l q, q.accounted → (f l q).accounted) :
    (p.lineCommand lk kind line (fun l q => q.inStates lk kind line l states (f l))).accounted :=
  Part.lineCommand_keeps Part.accounted lk kind line (fun _ hq => hq.reject lk _ _ _)
    (fun l q hq => Part.inStates_keeps Part.accounted lk kind line l states (hq.reject lk _ _ _) (hf l q hq)) h

/-- The same for a command for a line and a profile. -/
theorem Part.accounted.lineProfileCommand (lk : LinkId) (kind line profile : Byte) (states : List LineState)
    {f : LineId → ProfileId → Part → Part} (hf : ∀ l i q, q.accounted → (f l i q).accounted) :
    (p.lineProfileCommand lk kind line profile (fun l i q => q.inStates lk kind line l states (f l i))).accounted :=
  Part.lineProfileCommand_keeps Part.accounted lk kind line profile (fun _ hq => hq.reject lk _ _ _)
    (fun l i q hq => Part.inStates_keeps Part.accounted lk kind line l states (hq.reject lk _ _ _) (hf l i q hq)) h

theorem Part.accounted.freeTrace (l : LineId) : (p.freeTrace l).accounted := by
  unfold Part.freeTrace
  split
  · exact h
  · exact Part.accounted.updLine (h.setTraceSlot _ none) l _ rfl

theorem Part.accounted.setGate (lk : LinkId) (l : LineId) (g : Gate) (c : LineCause) :
    (p.setGate lk l g c).accounted := by
  have hg : ∀ st, ((p.updLine l (fun x => { x with gate := g })).lineStateReport l st c (some lk) 0).accounted :=
    fun st => Part.accounted.lineStateReport (h.updLine l _ rfl) l st c _ 0
  unfold Part.setGate Part.gateChanged
  repeat' split
  · exact h
  · exact (hg _).judge l
  · exact (hg _).leaveGrantQueue l
  · exact hg _

theorem Part.accounted.restoreEntry (l : LineId) : (p.restoreEntry l).accounted := by
  unfold Part.restoreEntry
  split
  · exact h.enterWithTimer l .idle
  · exact h.seize l

theorem Part.accounted.withdraw (lk : LinkId) (l : LineId) : (p.withdraw lk l).accounted :=
  ((h.giveUpSender l).flush l).lineStateReport l _ _ _ _

theorem Part.accounted.enableCommand (lk : LinkId) (line profile : Byte) : (p.enableCommand lk line profile).accounted :=
  h.lineProfileCommand lk _ line profile _ (fun l _ _ hq =>
    ((Part.accounted.enterWithTimer (hq.updLine l _ rfl) l _).lineStateReport l _ _ _ _).ack lk _ _ _)

theorem Part.accounted.setProfileCommand (lk : LinkId) (line profile : Byte) :
    (p.setProfileCommand lk line profile).accounted := by
  refine h.lineProfileCommand lk _ line profile _ (fun l i q hq => ?_)
  have hs : (q.updLine l (fun x => { x with profile := i })).accounted := hq.updLine l _ rfl
  dsimp only
  split
  · exact hs.ack lk _ _ _
  · exact (hs.reportBoth _).ack lk _ _ _

theorem Part.accounted.resumeCommand (lk : LinkId) (line : Byte) : (p.resumeCommand lk line).accounted :=
  h.lineCommand lk _ line _ (fun l _ hq =>
    (((Part.accounted.enterWithTimer (hq.updLine l _ rfl) l _).lineStateReport l _ _ _ _).judge l).ack lk _ _ _)

theorem Part.accounted.restoreCommand (lk : LinkId) (line : Byte) : (p.restoreCommand lk line).accounted :=
  h.lineCommand lk _ line _ (fun l _ hq =>
    (((Part.accounted.restoreEntry (hq.updLine l _ rfl) l).lineStateReport l _ _ _ _).judge l).ack lk _ _ _)

theorem Part.accounted.injectCommand (lk : LinkId) (line : Byte) (codes : List Byte) :
    (p.injectCommand lk line codes).accounted := by
  refine h.lineCommand lk _ line _ (fun l q hq => ?_)
  repeat' split
  · exact hq.reject lk _ _ _
  · exact hq.reject lk _ _ _
  · exact hq.injectSymbols lk line l _

theorem Part.accounted.relearnCommand (lk : LinkId) (line : Byte) : (p.relearnCommand lk line).accounted :=
  h.lineCommand lk _ line _ (fun l _ hq => Part.accounted.ack (hq.updLine l _ rfl) lk _ _ _)

theorem Part.accounted.traceOnCommand (lk : LinkId) (line : Byte) : (p.traceOnCommand lk line).accounted := by
  refine h.lineCommand lk _ line _ (fun l q hq => ?_)
  split
  · exact hq.ack lk _ _ _
  · exact (Part.accounted.updLine (hq.setTraceSlot _ _) l _ rfl).ack lk _ _ _
  · exact hq.reject lk _ _ _

/-- WRITE PROFILE and WRITE CONVENTION store no cap. -/
theorem Part.accounted.writeProfileCommand (lk : LinkId) (profile : Byte) (r : RawProfile) :
    (p.writeProfileCommand lk profile r).accounted := by
  refine Part.onLink_keeps Part.accounted lk (fun q hq => ?_) h
  split
  · exact hq.reject lk _ _ _
  · next i _ =>
    have hs : (q.setProfile i (clampProfile r)).accounted := hq.beside rfl rfl rfl
    exact (hs.reportBoth _).ack lk _ _ _

theorem Part.accounted.writeConventionCommand (lk : LinkId) (convention : Byte) (es : Vector Byte 10) :
    (p.writeConventionCommand lk convention es).accounted := by
  refine Part.onLink_keeps Part.accounted lk (fun q hq => ?_) h
  split
  · exact hq.reject lk _ _ _
  · next i _ =>
    have hs : (q.setConvention i (storedConvention es)).accounted := hq.beside rfl rfl rfl
    exact (hs.reportBoth _).ack lk _ _ _

/-- WRITE GLOBALS stores a cap of at most 32 (R139). -/
theorem Part.accounted.writeGlobalsCommand (lk : LinkId) (r : RawGlobals) : (p.writeGlobalsCommand lk r).accounted := by
  refine Part.onLink_keeps Part.accounted lk (fun q hq => ?_) h
  have hs : ({ q with globals := clampGlobals r } : Part).accounted :=
    ⟨hq.total, hq.lengths, (clampTo_bounds 1 32 _ (by decide)).2⟩
  exact (hs.reportBoth _).ack lk _ _ _

theorem Part.accounted.readSettingsCommand (lk : LinkId) (kind index : Byte) :
    (p.readSettingsCommand lk kind index).accounted := by
  refine Part.onLink_keeps Part.accounted lk (fun q hq => ?_) h
  split
  · exact hq.reject lk _ _ _
  · exact hq.report lk _

theorem Part.accounted.takeCommand (c : Instr) : (p.takeCommand c).accounted := by
  cases c with
  | audit lk ch => exact h.auditCommand lk ch
  | enable lk l i => exact h.enableCommand lk l i
  | disable lk l =>
    exact h.lineCommand lk _ l _ (fun m _ hq => ((hq.freeTrace m).leaveFor m _ _ _).ack lk _ _ _)
  | setProfile lk l i => exact h.setProfileCommand lk l i
  | openGate lk l => exact h.lineCommand lk _ l _ (fun m _ hq => (hq.setGate lk m _ _).ack lk _ _ _)
  | shutGate lk l => exact h.lineCommand lk _ l _ (fun m _ hq => (hq.setGate lk m _ _).ack lk _ _ _)
  | converse lk l => exact h.lineCommand lk _ l _ (fun m _ hq => (hq.leaveFor m _ _ _).ack lk _ _ _)
  | resume lk l => exact h.resumeCommand lk l
  | park lk l => exact h.lineCommand lk _ l _ (fun m _ hq => (hq.leaveFor m _ _ _).ack lk _ _ _)
  | restore lk l => exact h.restoreCommand lk l
  | withdraw lk l => exact h.lineCommand lk _ l _ (fun m _ hq => (hq.withdraw lk m).ack lk _ _ _)
  | inject lk l xs => exact h.injectCommand lk l xs
  | relearn lk l => exact h.relearnCommand lk l
  | traceOn lk l => exact h.traceOnCommand lk l
  | traceOff lk l =>
    exact Part.lineCommand_keeps Part.accounted lk _ l (fun _ hq => hq.reject lk _ _ _)
      (fun m _ hq => (hq.freeTrace m).ack lk _ _ _) h
  | queryLine lk l =>
    exact Part.lineCommand_keeps Part.accounted lk _ l (fun _ hq => hq.reject lk _ _ _)
      (fun _ _ hq => hq.report lk _) h
  | writeProfile lk i r => exact h.writeProfileCommand lk i r
  | writeConvention lk i es => exact h.writeConventionCommand lk i es
  | writeGlobals lk r => exact h.writeGlobalsCommand lk r
  | readSettings lk k i => exact h.readSettingsCommand lk k i
  | _ => exact h

/-! ### Time (chapter 09) -/

theorem Part.accounted.lockingTimeout : p.lockingTimeout.accounted := by
  unfold Part.lockingTimeout
  dsimp only
  repeat' split
  · exact ((h.setTimeBase _).setTimeBase _).reportBoth _
  · exact h.setTimeBase _
  · exact h

theorem Part.accounted.expireLine (l : LineId) : (p.expireLine l).accounted :=
  ((((h.restExpiry l).seizeExpiry l).firstDigitExpiry l).partialExpiry l).settleExpiry l

theorem Part.accounted.settleExpiries : p.settleExpiries.accounted := by
  have hl := Part.forLines_keeps Part.accounted _ (fun l _ hq => hq.expireLine l) _ h.classReview
  exact (((((hl.longBreak .a).gapTimerExpiry .a).auditExpiry .a).longBreak .b).gapTimerExpiry .b).auditExpiry .b

theorem Part.accounted.settlePhases : p.settlePhases.accounted :=
  Part.forSenders_keeps Part.accounted _ (fun k _ hq => (hq.onPhaseEnd k).toneOffEnd k) p h

/-- A tick counts the timers of the lines and leaves their queues. -/
theorem Part.accounted.ticked : p.ticked.accounted := by
  rw [Part.ticked_eq]
  refine h.of_lengths (fun l => ?_) rfl rfl
  rw [← Part.ticked_eq]
  rcases p.ticked_line l with e | e <;> rw [e]
  rfl

theorem Part.accounted.tickCore : p.tickCore.accounted := h.ticked.strobe _

theorem Part.accounted.abortForLoss (k : SenderId) : (p.abortForLoss k).accounted := by
  unfold Part.abortForLoss
  split
  · exact h
  · exact (h.abortOnly _).judge _
  · exact h.setSender k _

theorem Part.accounted.loseClock : p.loseClock.accounted := by
  have ht : (p.settlePhases.settleExpiries.setTimeBase
      (fun t => { t with state := .fallback, divider := 0, runCount := 0 })).tickCore.accounted :=
    (h.settlePhases.settleExpiries.setTimeBase _).tickCore
  exact (Part.forSenders_keeps Part.accounted _ (fun k _ hq => hq.abortForLoss k) _ ht).reportBoth _

theorem Part.accounted.watchdogExpiry : p.watchdogExpiry.accounted := by
  unfold Part.watchdogExpiry
  split
  · exact h
  · exact h
  · exact (h.setTimeBase _).loseClock
  · exact h.setTimeBase _

theorem Part.accounted.takeFrame : p.takeFrame.accounted := by
  have hf : p.sendersTakeFrame.accounted := h.beside rfl rfl rfl
  have hl : ∀ q : Part, q.accounted → q.enterLocked.accounted :=
    fun q hq => ((hq.setTimeBase _).reportBoth _).grantTest
  unfold Part.takeFrame Part.countFrame
  dsimp only
  repeat' split
  · exact ((hf.setTimeBase _).setTimeBase _).tickCore
  · exact (hf.setTimeBase _).setTimeBase _
  · exact hl _ (hf.setTimeBase _)
  · exact (hf.setTimeBase _).setTimeBase _
  · exact hl _ (hf.setTimeBase _)
  · exact (hf.setTimeBase _).setTimeBase _

end

/-- After a part reset all 256 cells are free and no queue holds one (R74, R189). -/
theorem Part.accounted_atReset (cause : ResetCause) (a b : WireLevel) : (Part.atReset cause a b).accounted := by
  have hl : ∀ l, ((Part.atReset cause a b).line l).queue = [] := fun l => by
    rw [show (Part.atReset cause a b).line l = Line.atReset from Laws.get_replicate _ l]
    rfl
  have hq : (Part.atReset cause a b).queued = 0 := by
    simp only [Part.queued, hl, List.length_nil, List.map_const', List.sum_replicate, smul_zero]
  refine ⟨?_, fun l => ?_, Nat.le_refl 32⟩
  · rw [hq]
    rfl
  · rw [hl]
    exact Nat.zero_le 32

/-- The operations of the rows keep the account of the cells. -/
theorem Part.accounted_keptByRows : Part.KeptByRows Part.accounted where
  confirmationStage l _ h := h.confirmationStage l
  gapStage l _ h := h.gapStage l
  clearStage l _ h := h.clearStage l
  lockingTimeout _ h := h.lockingTimeout
  dropWaiting lk _ h := h.dropWaiting lk
  receiveError lk e _ h := h.receiveError lk e
  takeCommand c _ h := h.takeCommand c
  takeScanBytes bs _ h := h.takeScanBytes bs
  classReview _ h := h.classReview
  restExpiry l _ h := h.restExpiry l
  seizeExpiry l _ h := h.seizeExpiry l
  firstDigitExpiry l _ h := h.firstDigitExpiry l
  partialExpiry l _ h := h.partialExpiry l
  settleExpiry l _ h := h.settleExpiry l
  longBreak lk _ h := h.longBreak lk
  shortBreak lk _ h := h.shortBreak lk
  returnToMarking lk _ h := h.returnToMarking lk
  gapTimerExpiry lk _ h := h.gapTimerExpiry lk
  auditExpiry lk _ h := h.auditExpiry lk
  startSending lk _ _ h := h.updLink lk _
  finishTransmission lk _ h := h.updLink lk _
  takeCharacter lk _ _ _ _ h := h.updLink lk _
  onPhaseEnd k _ h := h.onPhaseEnd k
  toneOffEnd k _ h := h.toneOffEnd k
  watchdogExpiry _ h := h.watchdogExpiry
  setWatchdog _ _ h := h.setTimeBase _
  tickCore _ h := h.tickCore
  takeFrame _ h := h.takeFrame
  atReset := Part.accounted_atReset

/-- Settles O57: every operation of a row leaves each cell where it is, or moves it between the free set and a queue. -/
theorem everyCellIsAccountedFor : Obligations.EveryCellIsAccountedFor := by
  unfold Obligations.EveryCellIsAccountedFor
  rw [← show Part.accounted = Part.poolKept from funext fun p => propext p.accounted_iff]
  exact keptByEveryStep_of_rows Part.accounted_keptByRows

end Sys2Proof.Machine
end

section
/-!
PROOF. Eligibility and the grant test (R95, R96, R98, R99, R112).
-/
namespace Sys2Proof.Machine

/-! ### Eligibility -/

/-- ACTIVE, gate OPEN, and a head cell that is QUEUED (R104). -/
theorem Line.canSend_iff (x : Line) : x.canSend = true ↔ x.state = .active ∧ x.gate = .open
    ∧ ∃ y rest, x.queue = y :: rest ∧ y.sending = false := by
  simp only [Line.canSend, Bool.and_eq_true, decide_eq_true_eq, Line.headQueued_iff, and_assoc]

/-- Eligibility is R95. -/
theorem Part.eligible_iff (p : Part) (l : LineId) : p.eligible l = true ↔
    (p.line l).canSend = true ∧ (p.line l).sender = none ∧ l ∉ p.grantQueue := by
  simp only [Part.eligible, Bool.and_eq_true, Option.isNone_iff_eq_none, Bool.not_eq_true', and_assoc,
    ← Bool.not_eq_true, List.contains_iff_mem]

theorem Part.judge_eligible (p : Part) (l : LineId) (h : p.eligible l = true) :
    p.judge l = ({ p with grantQueue := p.grantQueue ++ [l] } : Part).grantTest := if_pos h

theorem Part.judge_not_eligible (p : Part) (l : LineId) (h : ¬ p.eligible l = true) : p.judge l = p := if_neg h

/-! ### The lowest-numbered FREE sender -/

theorem Part.lowestFree_eq_none (p : Part) (h : ∀ k, (p.sender k).state ≠ .free) : p.lowestFree = none :=
  List.find?_eq_none.2 (fun k _ hk => h k (of_decide_eq_true hk))

/-- The senders before the one found in ascending order are lower-numbered (R98). -/
theorem Part.lowestFree_eq_some (p : Part) (k : SenderId) (hk : (p.sender k).state = .free)
    (hlow : ∀ j, j < k → (p.sender j).state ≠ .free) : p.lowestFree = some k := by
  obtain ⟨before, after, he⟩ := List.append_of_mem (List.mem_finRange k)
  have hsorted : (before ++ k :: after).Pairwise (· < ·) := he ▸ List.pairwise_lt_finRange 8
  have hlt : ∀ j ∈ before, j < k := fun j hj => (List.pairwise_append.1 hsorted).2.2 j hj k List.mem_cons_self
  refine List.find?_eq_some_iff_append.2 ⟨decide_eq_true hk, before, after, he, fun j hj => ?_⟩
  simpa using hlow j (hlt j hj)

/-! ### The rounds of the grant test -/

/-- A round outside LOCKED, with an empty grant queue or with no FREE sender, does nothing (R98, R112). -/
theorem Part.grantOnce_idle (p : Part)
    (h : p.timeBase.state ≠ .locked ∨ p.grantQueue = [] ∨ (∀ k, (p.sender k).state ≠ .free)) : p.grantOnce = p := by
  rcases p.grantOnce_cases with ⟨l, rest, k, hs, hq, hf, _⟩ | e
  · rcases h with h | h | h
    · exact absurd hs h
    · exact absurd (h.symm.trans hq) (List.cons_ne_nil l rest).symm
    · exact absurd ((p.lowestFree_eq_none h).symm.trans hf) (by simp)
  · exact e

theorem Part.grantTest_idle (p : Part)
    (h : p.timeBase.state ≠ .locked ∨ p.grantQueue = [] ∨ (∀ k, (p.sender k).state ≠ .free)) : p.grantTest = p :=
  foldl_fixed _ _ _ (fun _ _ => p.grantOnce_idle h)

/-- The round that grants a FREE sender to the line at the head of the grant queue (R98, R99). -/
theorem Part.grantOnce_head (p : Part) (l : LineId) (rest : List LineId) (k : SenderId) (hs : p.timeBase.state = .locked)
    (hq : p.grantQueue = l :: rest) (hk : p.lowestFree = some k) :
    p.grantOnce = ({ p with grantQueue := rest } : Part).grant l k := by
  simp only [Part.grantOnce, hs, hq, hk]

theorem Part.grant_cons (p : Part) (l : LineId) (k : SenderId) (y : Cell) (cells : List Cell)
    (h : (p.line l).queue = y :: cells) :
    p.grant l k = (p.setLine l { p.line l with
      sender := some k, runCount := 1, queue := { y with sending := true } :: cells }).setSender k
        (burstStart l y.symbol (p.profileOfLine l).capture) := by
  simp only [Part.grant, h]

/-- The grant queue bounds the rounds: after the round of its head the test is made of what that round left (R98). -/
theorem Part.grantTest_cons (p : Part) (l : LineId) (rest : List LineId) (hq : p.grantQueue = l :: rest)
    (hrest : p.grantOnce.grantQueue = rest) : p.grantTest = p.grantOnce.grantTest := by
  simp only [Part.grantTest, hq, hrest, List.foldl_cons]

/-- Settles O34: joining is `Part.eligible_iff`, and one round of the grant test is `Part.grantOnce_head`. -/
theorem grantsGoToTheLowestFreeSender : Obligations.GrantsGoToTheLowestFreeSender := by
  unfold Obligations.GrantsGoToTheLowestFreeSender
  refine ⟨fun p l eligible he => ?_, Part.grantTest_idle, ?_⟩
  · have hel : eligible ↔ p.eligible l = true := by
      rw [he, p.eligible_iff, Line.canSend_iff]
      tauto
    exact ⟨fun h => p.judge_eligible l (hel.1 h), fun h => p.judge_not_eligible l (fun e => h (hel.2 e))⟩
  · intro p q l rest k y cells r hs hq hk hlow hy hr hqe
    have hround : p.grantOnce = q := by
      rw [p.grantOnce_head l rest k hs hq (p.lowestFree_eq_some k hk hlow),
        Part.grant_cons ({ p with grantQueue := rest } : Part) l k y cells hy, hqe, hr]
      rfl
    rw [p.grantTest_cons l rest hq (by rw [hround, hqe]; rfl), hround]

end Sys2Proof.Machine
end

section
/-!
PROOF. A highway frame at a ready part (R125), and the frames that lead to LOCKED (R114, R180, R182, R185, R186).
-/
namespace Sys2Proof.Machine

/-- Nothing waits before a frame that gives no tick, or that gives one with nothing overdue. -/
theorem Part.beforeFrame_current (p : Part) (hs : p.settled) (hp : p.phasesCurrent)
    (hc : p.timeBase.frameTicks = true → p.current) : p.beforeFrame = p := by
  rw [Part.beforeFrame, p.settleUrgent_settled hs, p.settlePhases_current hp]
  split
  · next h => exact p.settleExpiries_current (hc h)
  · rfl

/-- The row of a frame of 64 slots at a ready state: the outgoing frame is chosen, then the part takes the frame (R125). -/
theorem exec_highwayFrame_ready (s : State) (slots : List Half) (hr : s.ready) (hp : s.part.phasesCurrent)
    (hl : slots.length = 64) (hc : s.part.timeBase.frameTicks = true → s.part.current) :
    exec (.highwayFrame slots) s
      = .next { s with outgoing := some (s.part.outFrame slots), part := s.part.takeFrame } := by
  have hlong : ¬ slots.length < 64 := by omega
  have hwork : ¬ s.hold.held = true := by simp [hr.1]
  change Host.Outcome.next (if slots.length < 64 then _ else if s.hold.held then _ else _) = _
  rw [if_neg hlong, if_neg hwork, State.takeHighwayFrame, List.take_of_length_le hl.le,
    s.part.beforeFrame_current hr.2 hp hc]

/-- No frame outside LOCKED gives a tick (R179). -/
theorem TimeBase.frameTicks_unlocked (t : TimeBase) (h : t.state ≠ .locked) : t.frameTicks = false := by
  simp [TimeBase.frameTicks, h]

/-- Outside LOCKED a frame restarts the watchdog and raises the run count, short of 128 (R180, R182). -/
theorem Part.countFrame_run (p : Part) (h : p.timeBase.state ≠ .locked) (hr : p.timeBase.runCount < 127) :
    p.countFrame = p.setTimeBase (fun t => { t with watchdog := some 0, runCount := t.runCount + 1 }) := by
  have hshort : ¬ 128 ≤ p.timeBase.runCount + 1 := by omega
  unfold Part.countFrame
  cases hs : p.timeBase.state with
  | locked => exact absurd hs h
  | locking => exact if_neg hshort
  | fallback => exact if_neg hshort

/-- The frame that takes the run count to 128 enters LOCKED (R182). -/
theorem Part.countFrame_enters (p : Part) (h : p.timeBase.state ≠ .locked) (hr : 127 ≤ p.timeBase.runCount) :
    p.countFrame = (p.setTimeBase (fun t => { t with watchdog := some 0 })).enterLocked := by
  have hfull : 128 ≤ p.timeBase.runCount + 1 := by omega
  unfold Part.countFrame
  cases hs : p.timeBase.state with
  | locked => exact absurd hs h
  | locking => exact if_pos hfull
  | fallback => exact if_pos hfull

/-- Settles O52, from the row of a frame and the count of frames outside LOCKED. -/
theorem framesOutsideLockedCountToLocked : Obligations.FramesOutsideLockedCountToLocked := by
  unfold Obligations.FramesOutsideLockedCountToLocked
  intro s slots hr hp hl hs
  have hnt : s.part.timeBase.frameTicks = true → s.part.current := fun h =>
    absurd (h.symm.trans (s.part.timeBase.frameTicks_unlocked hs)) (by simp)
  rw [exec_highwayFrame_ready s slots hr hp hl hnt, Part.takeFrame]
  refine ⟨fun hrun => ⟨s.part.outFrame slots, ?_⟩, fun hrun => ⟨s.part.outFrame slots, ?_⟩⟩
  · rw [s.part.sendersTakeFrame.countFrame_run hs hrun]
    rfl
  · rw [s.part.sendersTakeFrame.countFrame_enters hs hrun]
    rfl

end Sys2Proof.Machine
end

section
/-!
PROOF. The loss of the frame clock (R84, R85, R109, R113, R184, R186). An abort is written as the report it makes, the record
it leaves of the line, and the place the line takes in the grant queue (`Part.abortOnly_held`, `Part.judge_unlocked`); the
aborts of the senders in order then add up (`Part.Losing.foldl_abortForLoss`).
-/
namespace Sys2Proof.Machine

/-! ### The pool, written at once -/

/-- The part with the lines, the senders, the free count and the grant queue written anew. -/
def Part.withPool (p : Part) (ls : Vector Line 48) (ks : Vector Sender 8) (n : Nat) (g : List LineId) : Part :=
  { p with lines := ls, senders := ks, free := n, grantQueue := g }

@[simp] theorem Part.withPool_timeBase (p : Part) (ls : Vector Line 48) (ks : Vector Sender 8) (n : Nat) (g : List LineId) :
    (p.withPool ls ks n g).timeBase = p.timeBase := rfl
@[simp] theorem Part.withPool_lines (p : Part) (ls : Vector Line 48) (ks : Vector Sender 8) (n : Nat) (g : List LineId) :
    (p.withPool ls ks n g).lines = ls := rfl
@[simp] theorem Part.withPool_senders (p : Part) (ls : Vector Line 48) (ks : Vector Sender 8) (n : Nat) (g : List LineId) :
    (p.withPool ls ks n g).senders = ks := rfl
@[simp] theorem Part.withPool_free (p : Part) (ls : Vector Line 48) (ks : Vector Sender 8) (n : Nat) (g : List LineId) :
    (p.withPool ls ks n g).free = n := rfl
@[simp] theorem Part.withPool_grantQueue (p : Part) (ls : Vector Line 48) (ks : Vector Sender 8) (n : Nat) (g : List LineId) :
    (p.withPool ls ks n g).grantQueue = g := rfl
/-- The later write of the pool stands. -/
@[simp] theorem Part.withPool_withPool (p : Part) (ls : Vector Line 48) (ks : Vector Sender 8) (n : Nat) (g : List LineId)
    (ls' : Vector Line 48) (ks' : Vector Sender 8) (n' : Nat) (g' : List LineId) :
    (p.withPool ls ks n g).withPool ls' ks' n' g' = p.withPool ls' ks' n' g' := rfl

theorem Part.withPool_with_grantQueue (p : Part) (ls : Vector Line 48) (ks : Vector Sender 8) (n : Nat)
    (g g' : List LineId) : { p.withPool ls ks n g with grantQueue := g' } = p.withPool ls ks n g' := rfl

theorem Part.reportBoth_withPool (p : Part) (ls : Vector Line 48) (ks : Vector Sender 8) (n : Nat) (g : List LineId)
    (b : ReportBody) : (p.withPool ls ks n g).reportBoth b = (p.reportBoth b).withPool ls ks n g := rfl

/-- Reports and the pool's fields do not meet (R163, R164). -/
theorem Part.foldl_reportBoth_withPool (bs : List ReportBody) (p : Part) (ls : Vector Line 48) (ks : Vector Sender 8)
    (n : Nat) (g : List LineId) :
    bs.foldl Part.reportBoth (p.withPool ls ks n g) = (bs.foldl Part.reportBoth p).withPool ls ks n g := by
  induction bs generalizing p with
  | nil => rfl
  | cons b bs ih => exact ih (p.reportBoth b)

theorem mem_allSenders (k : SenderId) : k ∈ allSenders := List.mem_finRange k

theorem Part.foldl_reportBoth_timeBase (bs : List ReportBody) (p : Part) :
    (bs.foldl Part.reportBoth p).timeBase = p.timeBase :=
  foldl_keeps (fun q : Part => q.timeBase = p.timeBase) _ (fun q b h => (q.reportBoth_timeBase b).trans h) bs p rfl

/-! ### What an abort makes of the head cell (R109) -/

/-- The DIGIT SENT report of the abort of sender `k`: none where the head cell of its line is not committed. -/
def Part.abortReport (p : Part) (k : SenderId) : Option ReportBody :=
  match (p.sender k).state, (p.sender k).line, (p.sender k).captured with
  | .toneOn, some l, some c =>
    (match (p.line l).queue with
    | y :: _ => if 8 * c.commit ≤ (p.sender k).elapsed then some (.digitSent l k .atAbort y) else none
    | [] => none)
  | _, _, _ => none

/-- The queue of a line after the abort of its sender in a state: in TONE_ON the head cell leaves it where it is reported,
and goes back to QUEUED where it is not (R84, R85). -/
def abortedQueue (st : SenderState) (r : Option ReportBody) (cells : List Cell) : List Cell :=
  match st, cells with
  | .toneOn, y :: rest => if r = none then { y with sending := false } :: rest else rest
  | _, cells => cells

/-- The record that the abort of its sender leaves of a line. -/
def Line.aborted (x : Line) (st : SenderState) (r : Option ReportBody) : Line :=
  { x with sender := none, runCount := 0, queue := abortedQueue st r x.queue }

theorem Part.abortReport_toneOn (p : Part) (k : SenderId) (l : LineId) (y : Cell) (rest : List Cell)
    (hs : (p.sender k).state = .toneOn) (hl : (p.sender k).line = some l) (hq : (p.line l).queue = y :: rest) :
    p.abortReport k = if (p.sender k).pastCommit = true then some (.digitSent l k .atAbort y) else none := by
  cases hc : (p.sender k).captured with
  | none => simp [Part.abortReport, Sender.pastCommit, hs, hl, hc]
  | some c => simp only [Part.abortReport, hs, hl, hc, hq, (p.sender k).pastCommit_iff c hc]

theorem Part.abortReport_empty (p : Part) (k : SenderId) (l : LineId) (hl : (p.sender k).line = some l)
    (hq : (p.line l).queue = []) : p.abortReport k = none := by
  cases hs : (p.sender k).state <;> cases hc : (p.sender k).captured <;> simp only [Part.abortReport, hs, hl, hc, hq]

theorem Part.abortReport_not_toneOn (p : Part) (k : SenderId) (hs : (p.sender k).state ≠ .toneOn) :
    p.abortReport k = none := by
  cases h : (p.sender k).state with
  | toneOn => exact absurd h hs
  | free => simp only [Part.abortReport, h]
  | toneOff => simp only [Part.abortReport, h]

theorem Part.abortReport_no_line (p : Part) (k : SenderId) (hl : (p.sender k).line = none) : p.abortReport k = none := by
  cases hs : (p.sender k).state <;> simp only [Part.abortReport, hs, hl]

/-- The report is read off the sender and off its line's queue. -/
theorem Part.abortReport_congr {p q : Part} (k : SenderId) (hs : q.sender k = p.sender k)
    (hq : ∀ l, (p.sender k).line = some l → (q.line l).queue = (p.line l).queue) : q.abortReport k = p.abortReport k := by
  cases hl : (p.sender k).line with
  | none => rw [q.abortReport_no_line k (by rw [hs, hl]), p.abortReport_no_line k hl]
  | some l =>
    by_cases ht : (p.sender k).state = .toneOn
    · cases hc : (p.sender k).captured <;> simp only [Part.abortReport, hs, ht, hl, hc, hq l hl]
    · rw [q.abortReport_not_toneOn k (by rw [hs]; exact ht), p.abortReport_not_toneOn k ht]

theorem abortedQueue_nil (st : SenderState) (r : Option ReportBody) : abortedQueue st r [] = [] := by
  cases st <;> rfl

theorem abortedQueue_not_toneOn (st : SenderState) (r : Option ReportBody) (cells : List Cell) (hs : st ≠ .toneOn) :
    abortedQueue st r cells = cells := by
  cases st with
  | toneOn => exact absurd rfl hs
  | free => rfl
  | toneOff => rfl

/-- The part after an abort has dealt with the cell: a report, if one is made, with its cell in the free set (R84), and the
line's queue. -/
def Part.cellAborted (p : Part) (l : LineId) (r : Option ReportBody) (cells : List Cell) : Part :=
  ({ r.toList.foldl Part.reportBoth p with free := p.free + r.toList.length } : Part).setLine l
    { p.line l with queue := cells }

theorem Part.cellAborted_same (p : Part) (l : LineId) (cells : List Cell) (h : (p.line l).queue = cells) :
    p.cellAborted l none cells = p := by
  subst h
  exact p.setLine_line l

/-- What the abort does to the cell (R84, R85, R109). -/
theorem Part.abortCell_eq (p : Part) (l : LineId) (k : SenderId) (hl : (p.sender k).line = some l) :
    p.abortCell l k
      = p.cellAborted l (p.abortReport k) (abortedQueue (p.sender k).state (p.abortReport k) (p.line l).queue) := by
  by_cases hs : (p.sender k).state = .toneOn
  · cases hq : (p.line l).queue with
    | nil =>
      rw [p.abortReport_empty k l hl hq, abortedQueue_nil, p.cellAborted_same l [] hq]
      simp only [Part.abortCell, hs, Part.commit, Part.restoreHead, hq, ite_self]
    | cons y rest =>
      rw [p.abortReport_toneOn k l y rest hs hl hq, hs]
      simp only [Part.abortCell, hs, p.commit_cons l k _ y rest hq, p.restoreHead_cons l y rest hq]
      cases (p.sender k).pastCommit <;> rfl
  · rw [p.abortReport_not_toneOn k hs, abortedQueue_not_toneOn _ _ _ hs, p.cellAborted_same l _ rfl]
    cases h : (p.sender k).state with
    | toneOn => exact absurd h hs
    | free => simp only [Part.abortCell, h]
    | toneOff => simp only [Part.abortCell, h]

/-- The abort of a held sender as one write of the pool (R93, R94, R109). -/
theorem Part.abortOnly_held (p : Part) (l : LineId) (k : SenderId) (rs : List ReportBody) (h : (p.line l).sender = some k)
    (hl : (p.sender k).line = some l) (hr : (p.abortReport k).toList = rs) :
    p.abortOnly l = (rs.foldl Part.reportBoth p).withPool
      (p.lines.set l.val ((p.line l).aborted (p.sender k).state (p.abortReport k)) l.isLt)
      (p.senders.set k.val Sender.freed k.isLt) (p.free + rs.length) p.grantQueue := by
  have hfold : rs.foldl Part.reportBoth p = (rs.foldl Part.reportBoth p).withPool p.lines p.senders p.free p.grantQueue :=
    Part.foldl_reportBoth_withPool rs p _ _ _ _
  simp only [Part.abortOnly, h]
  rw [p.abortCell_eq l k hl, Part.cellAborted, hr, Part.freeSender_setLine, hfold]
  rfl

/-! ### The line that loses its sender (R95, R113) -/

/-- Outside LOCKED a judged line joins the grant queue, or not, and no grant is made (R96, R112). -/
theorem Part.judge_unlocked (p : Part) (l : LineId) (h : p.timeBase.state ≠ .locked) :
    p.judge l = { p with grantQueue := p.grantQueue ++ if p.eligible l then [l] else [] } := by
  rcases p.judge_cases l with ⟨he, hj⟩ | ⟨he, hj⟩
  · rw [hj, he]
    exact Part.grantTest_idle _ (Or.inl h)
  · rw [hj, he]
    simp

theorem Part.abortForLoss_free (p : Part) (k : SenderId) (h : (p.sender k).state = .free) : p.abortForLoss k = p := by
  simp only [Part.abortForLoss, h]

theorem Part.abortForLoss_held (p : Part) (k : SenderId) (l : LineId) (hs : (p.sender k).state ≠ .free)
    (hl : (p.sender k).line = some l) : p.abortForLoss k = (p.abortOnly l).judge l := by
  cases h : (p.sender k).state with
  | free => exact absurd h hs
  | toneOn => simp only [Part.abortForLoss, h, hl]
  | toneOff => simp only [Part.abortForLoss, h, hl]

/-! ### The aborts in order -/

/-- A part in which lines and senders name each other and no line that waits holds a sender, outside LOCKED (R93, R96). -/
structure Part.Losing (p : Part) : Prop where
  unlocked : p.timeBase.state ≠ .locked
  named : ∀ l k, (p.line l).sender = some k ↔ (p.sender k).line = some l
  free_iff : ∀ k, (p.sender k).state = .free ↔ (p.sender k).line = none
  freed : ∀ k, (p.sender k).state = .free → p.sender k = Sender.freed
  waiting : ∀ l ∈ p.grantQueue, (p.line l).sender = none

/-- The line that the abort of sender `k` makes eligible, if any. -/
def Part.lossJoin (p : Part) (k : SenderId) : Option LineId :=
  (p.sender k).line.filter (fun l => ((p.line l).aborted (p.sender k).state (p.abortReport k)).canSend)

/-- A line after the aborts of the senders `ks`. -/
def Part.lineAfter (p : Part) (ks : List SenderId) (l : LineId) : Line :=
  match (p.line l).sender with
  | none => p.line l
  | some k => if k ∈ ks then (p.line l).aborted (p.sender k).state (p.abortReport k) else p.line l

/-- A sender after the aborts of the senders `ks`. -/
def Part.senderAfter (p : Part) (ks : List SenderId) (k : SenderId) : Sender := if k ∈ ks then Sender.freed else p.sender k

/-- The part after the aborts of the senders `ks`, in that order, with `g` as its grant queue. -/
def Part.afterAborts (p : Part) (ks : List SenderId) (g : List LineId) : Part :=
  ((ks.filterMap p.abortReport).foldl Part.reportBoth p).withPool (Vector.ofFn (p.lineAfter ks))
    (Vector.ofFn (p.senderAfter ks)) (p.free + (ks.filterMap p.abortReport).length) g

@[simp] theorem Part.afterAborts_line (p : Part) (ks : List SenderId) (g : List LineId) (l : LineId) :
    (p.afterAborts ks g).line l = p.lineAfter ks l := Laws.get_ofFn _ l

@[simp] theorem Part.afterAborts_sender (p : Part) (ks : List SenderId) (g : List LineId) (k : SenderId) :
    (p.afterAborts ks g).sender k = p.senderAfter ks k := Laws.get_ofFn _ k

@[simp] theorem Part.afterAborts_timeBase (p : Part) (ks : List SenderId) (g : List LineId) :
    (p.afterAborts ks g).timeBase = p.timeBase := by
  rw [Part.afterAborts, Part.withPool_timeBase, Part.foldl_reportBoth_timeBase]

@[simp] theorem Part.afterAborts_grantQueue (p : Part) (ks : List SenderId) (g : List LineId) :
    (p.afterAborts ks g).grantQueue = g := rfl

theorem Part.afterAborts_with_grantQueue (p : Part) (ks : List SenderId) (g g' : List LineId) :
    { p.afterAborts ks g with grantQueue := g' } = p.afterAborts ks g' := Part.withPool_with_grantQueue _ _ _ _ _ _

/-- The grant queue after the aborts of the senders `ks`: the lines that are eligible join it in that order (R113). -/
def Part.queueAfter (p : Part) (ks : List SenderId) : List LineId := p.grantQueue ++ ks.filterMap p.lossJoin

theorem Part.lineAfter_not_held (p : Part) (ks : List SenderId) (l : LineId) (h : (p.line l).sender = none) :
    p.lineAfter ks l = p.line l := by
  simp only [Part.lineAfter, h]

theorem Part.lineAfter_aborted (p : Part) (ks : List SenderId) (l : LineId) (k : SenderId) (h : (p.line l).sender = some k)
    (hk : k ∈ ks) : p.lineAfter ks l = (p.line l).aborted (p.sender k).state (p.abortReport k) := by
  simp only [Part.lineAfter, h, if_pos hk]

theorem Part.lineAfter_held (p : Part) (ks : List SenderId) (l : LineId) (k : SenderId) (h : (p.line l).sender = some k)
    (hk : k ∉ ks) : p.lineAfter ks l = p.line l := by
  simp only [Part.lineAfter, h, if_neg hk]

/-- The abort of a sender that a line does not hold leaves the line. -/
theorem Part.lineAfter_snoc (p : Part) (ks : List SenderId) (k : SenderId) (l : LineId) (h : (p.line l).sender ≠ some k) :
    p.lineAfter (ks ++ [k]) l = p.lineAfter ks l := by
  cases hs : (p.line l).sender with
  | none => rw [p.lineAfter_not_held _ l hs, p.lineAfter_not_held _ l hs]
  | some j =>
    have hjk : j ≠ k := fun e => h (e ▸ hs)
    simp only [Part.lineAfter, hs, List.mem_append, List.mem_singleton, hjk, or_false]

/-- The abort of a sender leaves the others. -/
theorem Part.senderAfter_snoc (p : Part) (ks : List SenderId) (k j : SenderId) (h : j ≠ k) :
    p.senderAfter (ks ++ [k]) j = p.senderAfter ks j := by
  simp only [Part.senderAfter, List.mem_append, List.mem_singleton, h, or_false]

theorem Part.afterAborts_nil (p : Part) : p.afterAborts [] p.grantQueue = p := by
  have hl : Vector.ofFn (p.lineAfter []) = p.lines := Laws.ext_get _ _ fun l => by
    rw [Laws.get_ofFn, Part.lineAfter]
    cases hs : (p.line l).sender <;> simp [Part.line]
  have hk : Vector.ofFn (p.senderAfter []) = p.senders := Laws.ext_get _ _ fun k => Laws.get_ofFn _ k
  rw [Part.afterAborts, hl, hk]
  rfl

/-- After the aborts of all senders every sender is FREE (R112). -/
theorem Part.senderAfter_all (p : Part) : Vector.ofFn (p.senderAfter allSenders) = Vector.replicate 8 Sender.freed :=
  Laws.ext_get _ _ fun k => by
    rw [Laws.get_ofFn, Laws.get_replicate, Part.senderAfter, if_pos (mem_allSenders k)]

/-- The senders after one abort more. -/
theorem Part.senders_snoc (p : Part) (ks : List SenderId) (k : SenderId) :
    (Vector.ofFn (p.senderAfter ks)).set k.val Sender.freed k.isLt = Vector.ofFn (p.senderAfter (ks ++ [k])) := by
  refine Laws.ext_get _ _ fun j => ?_
  rw [Laws.get_ofFn]
  by_cases e : j = k
  · rw [e, Laws.get_set_self, Part.senderAfter, if_pos (by simp)]
  · rw [Laws.get_set_ne _ _ _ _ e, Laws.get_ofFn, p.senderAfter_snoc ks k j e]

theorem filterMap_snoc {α β : Type} (f : α → Option β) (xs : List α) (x : α) :
    (xs ++ [x]).filterMap f = xs.filterMap f ++ (f x).toList := by
  rw [List.filterMap_append]
  cases h : f x <;> simp [h]

section
variable {p : Part} (h : p.Losing) {ks : List SenderId} {k : SenderId}
include h

/-- A FREE sender is passed over. -/
theorem Part.Losing.afterAborts_snoc_free (g : List LineId) (hs : (p.sender k).state = .free) :
    p.afterAborts (ks ++ [k]) g = p.afterAborts ks g ∧ p.queueAfter (ks ++ [k]) = p.queueAfter ks := by
  have hn : (p.sender k).line = none := (h.free_iff k).1 hs
  have hr : p.abortReport k = none := p.abortReport_no_line k hn
  have hj : p.lossJoin k = none := by simp [Part.lossJoin, hn]
  have hlines : p.lineAfter (ks ++ [k]) = p.lineAfter ks := funext fun l =>
    p.lineAfter_snoc ks k l (fun e => by simp [(h.named l k).1 e] at hn)
  have hsenders : p.senderAfter (ks ++ [k]) = p.senderAfter ks := funext fun j => by
    by_cases e : j = k
    · subst e
      simp [Part.senderAfter, h.freed j hs]
    · exact p.senderAfter_snoc ks k j e
  constructor
  · rw [Part.afterAborts, filterMap_snoc, hr, hlines, hsenders, Option.toList_none, List.append_nil]
    rfl
  · rw [Part.queueAfter, filterMap_snoc, hj, Option.toList_none, List.append_nil]
    rfl

/-- A line whose sender is still to be aborted does not wait. -/
theorem Part.Losing.not_mem_queueAfter {l : LineId} (hl : (p.line l).sender = some k) (hk : k ∉ ks) :
    l ∉ p.queueAfter ks := by
  intro hm
  rcases List.mem_append.1 hm with hm | hm
  · exact absurd ((h.waiting l hm).symm.trans hl) (by simp)
  · obtain ⟨j, hj, hjoin⟩ := List.mem_filterMap.1 hm
    have hline : (p.sender j).line = some l := (Option.filter_eq_some_iff.1 hjoin).1
    have e : j = k := Option.some.inj (((h.named l j).2 hline).symm.trans hl)
    exact hk (e ▸ hj)

/-- The lines after one abort more. -/
theorem Part.Losing.lines_snoc {l : LineId} (hl : (p.line l).sender = some k) :
    (Vector.ofFn (p.lineAfter ks)).set l.val ((p.line l).aborted (p.sender k).state (p.abortReport k)) l.isLt
      = Vector.ofFn (p.lineAfter (ks ++ [k])) := by
  refine Laws.ext_get _ _ fun m => ?_
  rw [Laws.get_ofFn]
  by_cases e : m = l
  · rw [e, Laws.get_set_self, p.lineAfter_aborted _ l k hl (by simp)]
  · have hm : (p.line m).sender ≠ some k := fun hm =>
      e (Option.some.inj (((h.named m k).1 hm).symm.trans ((h.named l k).1 hl)))
    rw [Laws.get_set_ne _ _ _ _ e, Laws.get_ofFn, p.lineAfter_snoc ks k m hm]

/-- One abort more, of a sender that a line holds, before its line is judged. -/
theorem Part.Losing.abortOnly_afterAborts {l : LineId} (g : List LineId) (hl : (p.line l).sender = some k) (hk : k ∉ ks) :
    (p.afterAborts ks g).abortOnly l = p.afterAborts (ks ++ [k]) g := by
  have hline : (p.afterAborts ks g).line l = p.line l := by rw [Part.afterAborts_line, p.lineAfter_held ks l k hl hk]
  have hsender : (p.afterAborts ks g).sender k = p.sender k := by
    rw [Part.afterAborts_sender, Part.senderAfter, if_neg hk]
  have hreport : (p.afterAborts ks g).abortReport k = p.abortReport k := Part.abortReport_congr k hsender fun m hm => by
    rw [show m = l from Option.some.inj (hm.symm.trans ((h.named l k).1 hl)), hline]
  rw [Part.abortOnly_held _ l k _ (by rw [hline, hl]) (by rw [hsender]; exact (h.named l k).1 hl) rfl, hline, hsender,
    hreport]
  simp only [Part.afterAborts, Part.foldl_reportBoth_withPool, Part.withPool_withPool, Part.withPool_lines,
    Part.withPool_senders, Part.withPool_free, Part.withPool_grantQueue, h.lines_snoc hl, p.senders_snoc, filterMap_snoc,
    List.foldl_append, List.length_append, Nat.add_assoc]

/-- A line that has lost its sender joins the grant queue if it can send (R95, R113). -/
theorem Part.Losing.judge_afterAborts {l : LineId} (hl : (p.line l).sender = some k) (hk : k ∉ ks) :
    (p.afterAborts (ks ++ [k]) (p.queueAfter ks)).judge l = p.afterAborts (ks ++ [k]) (p.queueAfter (ks ++ [k])) := by
  have hline : (p.afterAborts (ks ++ [k]) (p.queueAfter ks)).line l
      = (p.line l).aborted (p.sender k).state (p.abortReport k) := by
    rw [Part.afterAborts_line, p.lineAfter_aborted _ l k hl (by simp)]
  have heligible : (p.afterAborts (ks ++ [k]) (p.queueAfter ks)).eligible l = true
      ↔ ((p.line l).aborted (p.sender k).state (p.abortReport k)).canSend = true := by
    rw [Part.eligible_iff, hline, Part.afterAborts_grantQueue]
    exact ⟨fun e => e.1, fun e => ⟨e, rfl, h.not_mem_queueAfter hl hk⟩⟩
  have hjoin : (p.lossJoin k).toList
      = if (p.afterAborts (ks ++ [k]) (p.queueAfter ks)).eligible l = true then [l] else [] := by
    rw [Part.lossJoin, (h.named l k).1 hl, Option.filter_some, if_congr heligible rfl rfl]
    split <;> rfl
  rw [Part.judge_unlocked _ l (by rw [Part.afterAborts_timeBase]; exact h.unlocked), ← hjoin, Part.afterAborts_grantQueue,
    Part.afterAborts_with_grantQueue, Part.queueAfter, Part.queueAfter, filterMap_snoc, List.append_assoc]

/-- The abort of one sender more (R113). -/
theorem Part.Losing.abortForLoss_afterAborts (hk : k ∉ ks) :
    (p.afterAborts ks (p.queueAfter ks)).abortForLoss k = p.afterAborts (ks ++ [k]) (p.queueAfter (ks ++ [k])) := by
  have hsender : (p.afterAborts ks (p.queueAfter ks)).sender k = p.sender k := by
    rw [Part.afterAborts_sender, Part.senderAfter, if_neg hk]
  cases hl : (p.sender k).line with
  | none =>
    have hs : (p.sender k).state = .free := (h.free_iff k).2 hl
    obtain ⟨ha, hq⟩ := h.afterAborts_snoc_free (ks := ks) (p.queueAfter ks) hs
    rw [Part.abortForLoss_free _ k (by rw [hsender, hs]), hq, ha]
  | some l =>
    have hs : (p.sender k).state ≠ .free := fun e => by simp [(h.free_iff k).1 e] at hl
    have hheld : (p.line l).sender = some k := (h.named l k).2 hl
    rw [Part.abortForLoss_held _ k l (by rw [hsender]; exact hs) (by rw [hsender, hl]),
      h.abortOnly_afterAborts _ hheld hk, h.judge_afterAborts hheld hk]

/-- The aborts of senders in order add up. -/
theorem Part.Losing.foldl_abortForLoss (js : List SenderId) (hn : (ks ++ js).Nodup) :
    js.foldl (fun q k => q.abortForLoss k) (p.afterAborts ks (p.queueAfter ks))
      = p.afterAborts (ks ++ js) (p.queueAfter (ks ++ js)) := by
  induction js generalizing ks with
  | nil => rw [List.append_nil, List.foldl_nil]
  | cons k js ih =>
    have hk : k ∉ ks := fun hm => (List.nodup_cons.1 (List.nodup_middle.1 hn)).1 (List.mem_append_left js hm)
    have hn' : (ks ++ [k] ++ js).Nodup := by rwa [List.append_assoc]
    rw [List.foldl_cons, h.abortForLoss_afterAborts hk, ih hn', List.append_assoc, List.singleton_append]

/-- The loss aborts every sender, in sender order (R113). -/
theorem Part.Losing.forSenders_abortForLoss :
    p.forSenders (fun k q => q.abortForLoss k) = p.afterAborts allSenders (p.queueAfter allSenders) := by
  have hfold := h.foldl_abortForLoss (ks := []) allSenders (List.nodup_finRange 8)
  have hstart : p.queueAfter [] = p.grantQueue := List.append_nil _
  rw [hstart, p.afterAborts_nil, List.nil_append] at hfold
  rw [Part.forSenders, hfold]

end

/-! ### The tick of the loss (R184) -/

/-- A line at a tick, by the state of the scan (R4, R49). -/
def Line.tickedIn (x : Line) (st : ScanState) : Line :=
  match st with
  | .running => x.tick
  | .lost => x

theorem Line.tickedIn_eq (x : Line) (st : ScanState) : x.tickedIn st = { x with timer := (x.tickedIn st).timer } := by
  cases st <;> rfl

theorem Part.tickLines_eq (p : Part) :
    p.tickLines = { p with lines := Vector.ofFn (fun l => (p.line l).tickedIn p.scan.state) } := by
  cases hs : p.scan.state with
  | running => rw [p.tickLines_running hs]; rfl
  | lost =>
    have hlines : Vector.ofFn (fun l => (p.line l).tickedIn .lost) = p.lines :=
      Laws.ext_get _ _ fun l => Laws.get_ofFn _ l
    rw [p.tickLines_lost hs, hlines]

/-- The part as the loss of the frame clock enters FALLBACK, with the tick of the entry (R180, R184). -/
def Part.lossTick (p : Part) : Part :=
  (p.setTimeBase (fun t => { t with watchdog := none, state := .fallback, divider := 0, runCount := 0 })).tickCore

/-- The tick of the entry where it cuts no scan frame short. -/
theorem Part.lossTick_whole (p : Part) (h : p.scan.period = none ∨ p.scan.received.length = 49) :
    p.lossTick = ({ p with
      timeBase := { p.timeBase with
        state := .fallback, lineTime := p.timeBase.lineTime + 1, divider := 0, runCount := 0, watchdog := none
        reviewDue := decide ((p.timeBase.lineTime + 1).toNat % 256 = 0), lockingDue := false }
      scan := { p.scan with period := some (p.timeBase.lineTime + 1), received := [] }
      linkA := p.linkA.tick
      linkB := p.linkB.tick } : Part).withPool (Vector.ofFn (fun l => (p.line l).tickedIn p.scan.state)) p.senders p.free
        p.grantQueue := by
  rw [Part.lossTick, Part.tickCore_whole (p.setTimeBase _) h, Part.ticked, Part.tickLines_eq]
  rfl

theorem Part.lossTick_line (p : Part) (h : p.scan.period = none ∨ p.scan.received.length = 49) (l : LineId) :
    p.lossTick.line l = (p.line l).tickedIn p.scan.state := by
  rw [p.lossTick_whole h]
  exact Laws.get_ofFn _ l

/-- The watchdog's expiry in LOCKED with nothing overdue (R113, R180, R184, R186). -/
theorem Part.watchdogExpiry_locked (p : Part) (hs : p.timeBase.state = .locked)
    (hw : ∃ n, p.timeBase.watchdog = some (n + 1)) (hp : p.phasesCurrent) (hc : p.current) :
    p.watchdogExpiry = (p.lossTick.forSenders (fun k q => q.abortForLoss k)).reportBoth
      (.clock .fallback .locked p.lossTick.busySenders
        (p.lossTick.forSenders (fun k q => q.abortForLoss k)).grantQueue.length) := by
  obtain ⟨n, hn⟩ := hw
  have hcur : (p.setTimeBase (fun t => { t with watchdog := none })).current := hc
  simp only [Part.watchdogExpiry, hn, hs]
  rw [Part.loseClock, Part.settlePhases_current (p.setTimeBase _) hp, Part.settleExpiries_current _ hcur]
  rfl

theorem exec_frameWatchdogExpiry_ready (s : State) (h : s.ready) :
    exec .frameWatchdogExpiry s = .next (s.withPart s.part.watchdogExpiry) := by
  change Host.Outcome.next (s.onPart (fun p => p.settleUrgent.watchdogExpiry)) = _
  rw [State.onPart_working s _ h.1, s.part.settleUrgent_settled h.2]
  rfl

/-! ### The loss as it is stated -/

/-- Eligibility of a line without a sender, read off the head of its queue (R95). -/
theorem Line.canSend_eq (x : Line) : x.canSend
    = decide (x.state = .active ∧ x.gate = .open ∧ x.queue.head?.map Cell.sending = some false) := by
  rw [Bool.eq_iff_iff, decide_eq_true_iff, Line.canSend_iff]
  cases x.queue <;> simp

/-- After the tick of the loss lines and senders still name each other. -/
theorem Part.losing_lossTick (p : Part) (h : p.scan.period = none ∨ p.scan.received.length = 49) (hv : p.supervisionKept)
    (hk : p.sendersKept) : p.lossTick.Losing := by
  obtain ⟨hnamed, hfree, hfreed, _⟩ := hk
  obtain ⟨_, hwaiting, _, _⟩ := hv
  have hheld : ∀ l, (p.lossTick.line l).sender = (p.line l).sender := fun l => by
    rw [p.lossTick_line h, Line.tickedIn_eq]
  have hsender : p.lossTick.sender = p.sender := by rw [p.lossTick_whole h]; rfl
  have hqueue : p.lossTick.grantQueue = p.grantQueue := by rw [p.lossTick_whole h]; rfl
  have hstate : p.lossTick.timeBase.state = .fallback := by rw [p.lossTick_whole h]; rfl
  constructor
  · simp [hstate]
  · simpa only [hheld, hsender] using hnamed
  · simpa only [hsender] using hfree
  · simpa only [hsender] using hfreed
  · simpa only [hheld, hqueue] using hwaiting

/-- Settles O54, from the aborts of all senders in order, taken after the tick of the loss. -/
theorem lossOfFramesAbortsEverySender : Obligations.LossOfFramesAbortsEverySender := by
  unfold Obligations.LossOfFramesAbortsEverySender
  intro s now ticked sent left joined busy hr hp hc hv hk hs hw hscan hnow hticked hsent hleft hjoined hbusy
  have hT := s.part.lossTick_whole hscan
  rw [← hnow, ← hticked] at hT
  have hL := s.part.losing_lossTick hscan hv hk
  have hsender : ∀ k, s.part.lossTick.sender k = s.part.sender k := fun k => by rw [hT]; rfl
  have hline : ∀ l, s.part.lossTick.line l = { s.part.line l with timer := (s.part.lossTick.line l).timer } := fun l => by
    rw [s.part.lossTick_line hscan, ← Line.tickedIn_eq]
  have hqueue : ∀ l, (s.part.lossTick.line l).queue = (s.part.line l).queue := fun l => by rw [hline]
  have hheld : ∀ l, (s.part.lossTick.line l).sender = (s.part.line l).sender := fun l => by rw [hline]
  have hreport : sent = s.part.lossTick.abortReport := funext fun k => by
    rw [hsent, Part.abortReport_congr k (hsender k) fun l _ => hqueue l]
    rfl
  have hafter : left = s.part.lossTick.lineAfter allSenders := funext fun l => by
    have hleft := hleft l (s.part.lossTick.line l).timer (by
      rw [s.part.lossTick_line hscan]
      cases s.part.scan.state <;> rfl)
    rw [hleft]
    cases hk : (s.part.line l).sender with
    | none => rw [Part.lineAfter_not_held _ _ l (by rw [hheld, hk]), hline l]
    | some k =>
      rw [Part.lineAfter_aborted _ _ l k (by rw [hheld, hk]) (mem_allSenders k), ← hreport, hsender, hline l]
      rfl
  have hjoin : joined = allSenders.filterMap s.part.lossTick.lossJoin := by
    rw [hjoined]
    refine List.filterMap_congr fun k _ => ?_
    rw [Part.lossJoin, hsender]
    cases hl : (s.part.sender k).line with
    | none => rfl
    | some l =>
      have hk : (s.part.lossTick.line l).sender = some k := (hL.named l k).2 (by rw [hsender, hl])
      rw [Option.filter_some, Option.filter_some, Line.canSend_eq, hafter,
        Part.lineAfter_aborted _ _ l k hk (mem_allSenders k), hsender]
  have hcount : s.part.lossTick.busySenders = busy := by
    rw [hbusy, Part.busySenders]
    simp only [hsender]
  rw [exec_frameWatchdogExpiry_ready s hr, s.part.watchdogExpiry_locked hs hw hp hc, hL.forSenders_abortForLoss, hcount,
    Part.afterAborts_grantQueue, Part.afterAborts, Part.queueAfter, Part.senderAfter_all, ← hafter, ← hjoin, ← hreport, hT,
    Part.foldl_reportBoth_withPool, Part.withPool_withPool, Part.reportBoth_withPool, List.length_append]
  rfl

end Sys2Proof.Machine
end

section
/-!
PROOF. The path switch (R125 to R131): the outgoing frame that a frame taken chooses, slot by slot.
-/
namespace Sys2Proof.Machine

/-! ### Path modes -/

/-- The situations of a line without a sender that mute its path (R128). -/
abbrev Line.muted (x : Line) : Prop :=
  x.state ∈ [LineState.parked, .quarantine] ∨ (x.state = .active ∧ x.pulseDialled = true)

theorem Line.pathMode_held (x : Line) (k : SenderId) (h : x.sender = some k) : x.pathMode = .tone k := by
  simp only [Line.pathMode, h]

theorem Line.pathMode_not_held (x : Line) (h : x.sender = none) : x.pathMode = if x.muted then .mute else .pass := by
  simp only [Line.pathMode, Line.muted, h]
  cases x.state <;> simp

theorem Part.lineSlot_held (p : Part) (l : LineId) (k : SenderId) (v : Half) (h : (p.line l).sender = some k) :
    p.lineSlot l v = (p.sender k).sample := by
  rw [Part.lineSlot, (p.line l).pathMode_held k h]

theorem Part.lineSlot_not_held (p : Part) (l : LineId) (v : Half) (h : (p.line l).sender = none) :
    p.lineSlot l v = if (p.line l).muted then 0 else v := by
  rw [Part.lineSlot, (p.line l).pathMode_not_held h]
  by_cases hm : (p.line l).muted
  · rw [if_pos hm, if_pos hm]
  · rw [if_neg hm, if_neg hm]

/-! ### The outgoing frame -/

theorem Part.outFrame_length (p : Part) (slots : List Half) : (p.outFrame slots).length = 64 := by
  rw [Part.outFrame, List.length_map, List.length_range]

theorem Part.outFrame_getElem? (p : Part) (slots : List Half) (n : Nat) (h : n < 64) :
    (p.outFrame slots)[n]? = some (p.outSlot slots n) := by
  rw [Part.outFrame, List.getElem?_map, List.getElem?_range h, Option.map_some]

theorem getElem?_eq_some_getD (slots : List Half) (n : Nat) (h : n < slots.length) :
    slots[n]? = some (slots.getD n 0) := by
  rw [List.getElem?_eq_getElem h, List.getD_eq_getElem slots 0 h]

/-- Slots 48 to 63 are copied (R127). -/
theorem Part.outFrame_copies (p : Part) (slots : List Half) (hl : slots.length = 64) (n : Nat) (h48 : 48 ≤ n)
    (h64 : n < 64) : (p.outFrame slots)[n]? = slots[n]? := by
  rw [p.outFrame_getElem? slots n h64, getElem?_eq_some_getD slots n (hl ▸ h64), Part.outSlot, dif_neg (Nat.not_lt.2 h48)]

theorem Part.outFrame_line (p : Part) (slots : List Half) (l : LineId) :
    (p.outFrame slots)[l.val]? = some (p.lineSlot l (slots.getD l.val 0)) := by
  rw [p.outFrame_getElem? slots l.val (Nat.lt_trans l.isLt (by decide)), Part.outSlot, dif_pos l.isLt]

/-- A frame gives a tick in LOCKED alone, with the divider at 7 (R179). -/
theorem TimeBase.frameTicks_iff (t : TimeBase) : t.frameTicks = true ↔ t.state = .locked ∧ 7 ≤ t.divider := by
  simp [TimeBase.frameTicks]

/-- Settles O37: the frame that the row chooses, read slot by slot. -/
theorem outgoingSlotsFollowThePathModes : Obligations.OutgoingSlotsFollowThePathModes := by
  unfold Obligations.OutgoingSlotsFollowThePathModes
  intro s slots hr hp hl hc
  have hticks : s.part.timeBase.frameTicks = true → s.part.current := fun h =>
    have ⟨hs, hd⟩ := s.part.timeBase.frameTicks_iff.1 h
    hc hs hd
  refine ⟨_, s.part.outFrame slots, exec_highwayFrame_ready s slots hr hp hl hticks, rfl, s.part.outFrame_length slots,
    s.part.outFrame_copies slots hl, fun l => ?_⟩
  rw [s.part.outFrame_line slots l]
  cases hk : (s.part.line l).sender with
  | some k => rw [s.part.lineSlot_held l k _ hk]
  | none =>
    have hin : slots[l.val]? = some (slots.getD l.val 0) :=
      getElem?_eq_some_getD slots l.val (by have := l.isLt; omega)
    rw [s.part.lineSlot_not_held l _ hk, hin]
    exact apply_ite some _ _ _

end Sys2Proof.Machine
end

section
/-!
PROOF. The frames that count to the tick in LOCKED (R124, R125, R178, R179, R180).
-/
namespace Sys2Proof.Machine

/-- In LOCKED a frame that gives no tick restarts the watchdog and raises the divider (R179, R180). -/
theorem Part.countFrame_divides (p : Part) (hs : p.timeBase.state = .locked) (hd : p.timeBase.divider < 7) :
    p.countFrame = p.setTimeBase (fun t => { t with watchdog := some 0, divider := t.divider + 1 }) := by
  have hn : ¬ p.timeBase.frameTicks = true := fun h => absurd (p.timeBase.frameTicks_iff.1 h).2 (Nat.not_le.2 hd)
  unfold Part.countFrame
  rw [hs]
  exact if_neg hn

/-- In LOCKED the eighth frame returns the divider to 0 and gives a tick (R179). -/
theorem Part.countFrame_ticks (p : Part) (hs : p.timeBase.state = .locked) (hd : 7 ≤ p.timeBase.divider) :
    p.countFrame = (p.setTimeBase (fun t => { t with watchdog := some 0, divider := 0 })).tickCore := by
  have hy : p.timeBase.frameTicks = true := p.timeBase.frameTicks_iff.2 ⟨hs, hd⟩
  unfold Part.countFrame
  rw [hs]
  exact if_pos hy

/-- A tick in LOCKED that cuts no scan frame short: no LOCKING timeout falls due (R178, R183). -/
theorem Part.tickCore_locked (p : Part) (hs : p.timeBase.state = .locked)
    (hscan : p.scan.period = none ∨ p.scan.received.length = 49) : p.tickCore = { p.ticked with
      timeBase := { p.timeBase with
        lineTime := p.timeBase.lineTime + 1
        reviewDue := decide ((p.timeBase.lineTime + 1).toNat % 256 = 0)
        lockingDue := false }
      scan := { p.scan with period := some (p.timeBase.lineTime + 1), received := [] } } := by
  have ht : p.timeBase.tick = { p.timeBase with
      lineTime := p.timeBase.lineTime + 1
      reviewDue := decide ((p.timeBase.lineTime + 1).toNat % 256 = 0)
      lockingDue := false } := by simp [TimeBase.tick, hs]
  rw [p.tickCore_whole hscan, p.ticked_eq, ht]

/-- Settles O51, from the row of a frame, the count of frames in LOCKED, and a tick that cuts no scan frame short. -/
theorem framesInLockedCountToTheTick : Obligations.FramesInLockedCountToTheTick := by
  unfold Obligations.FramesInLockedCountToTheTick
  intro s slots t hr hp hl hs ht
  subst ht
  refine ⟨fun hd => ⟨s.part.outFrame slots, ?_⟩, fun hd hc hscan => ⟨s.part.outFrame slots, ?_⟩⟩
  · have hticks : s.part.timeBase.frameTicks = true → s.part.current := fun h =>
      absurd (s.part.timeBase.frameTicks_iff.1 h).2 (Nat.not_le.2 hd)
    rw [exec_highwayFrame_ready s slots hr hp hl hticks, Part.takeFrame, s.part.sendersTakeFrame.countFrame_divides hs hd]
    rfl
  · rw [exec_highwayFrame_ready s slots hr hp hl (fun _ => hc), Part.takeFrame,
      s.part.sendersTakeFrame.countFrame_ticks hs hd,
      Part.tickCore_locked (s.part.sendersTakeFrame.setTimeBase _) (by exact hs) hscan, Part.ticked_eq]
    rfl

end Sys2Proof.Machine
end

section
/-!
PROOF. How a reset begins, and what a held part takes (R134, R187, R188, assumption logs 16, 17 and 19).
-/
namespace Sys2Proof.Machine

theorem Hold.eq_of_not_held (h : Hold) (hh : h.held = false) : h = ⟨false, false⟩ := by
  obtain ⟨hs, hi⟩ := Bool.or_eq_false_iff.1 hh
  cases h
  cases hs
  cases hi
  rfl

theorem exec_resetInput (s : State) :
    exec .resetInput s = .next (s.beginHold .external { s.hold with input := true }) := rfl

theorem exec_supplyLow (s : State) :
    exec .supplyLow s = .next (s.beginHold .lowSupply { s.hold with supply := true }) := rfl

/-- The first cause to hold a ready part begins a reset, which records it (R187, R188). -/
theorem State.beginHold_ready (s : State) (cause : ResetCause) (h : Hold) (hr : s.ready) :
    s.beginHold cause h = { s with hold := h, part := s.part.beginReset cause } := by
  have hw : ¬ s.hold.held = true := by simp [hr.1]
  rw [State.beginHold, if_neg hw, s.part.settleUrgent_settled hr.2]

/-- A second cause adds its hold alone (R187, R188). -/
theorem State.beginHold_held (s : State) (cause : ResetCause) (h : Hold) (hh : s.hold.held = true) :
    s.beginHold cause h = { s with hold := h } := by
  rw [State.beginHold, if_pos hh]

/-- A held part copies a frame of 64 slots (R134, R187). -/
theorem exec_highwayFrame_held (s : State) (slots : List Half) (hh : s.hold.held = true) (hl : slots.length = 64) :
    exec (.highwayFrame slots) s = .next { s with outgoing := some slots } := by
  have hlong : ¬ slots.length < 64 := by omega
  change Host.Outcome.next (if slots.length < 64 then _ else if s.hold.held then _ else _) = _
  rw [if_neg hlong, if_pos hh, List.take_of_length_le hl.le]
  rfl

/-- A short frame, and every row that does not touch the reset, changes nothing of a held part (R187, assumption
log 17). -/
theorem exec_held (s : State) (c : Instr) (hh : s.hold.held = true)
    (hshort : ∀ slots, c = .highwayFrame slots → slots.length < 64) (hend : ∀ a b, c ≠ .partResetEnd a b)
    (hinput : c ≠ .resetInput) (hpower : c ≠ .powerOn) (hsupply : c ≠ .supplyLow) : exec c s = .next s := by
  have row : ∀ f : Part → Part, Host.Outcome.next (s.onPart f) = (.next s : Host.Outcome State Fault Refusal) :=
    fun f => by rw [s.onPart_held f hh]
  cases c with
  | highwayFrame slots =>
    change Host.Outcome.next (if slots.length < 64 then _ else _) = _
    rw [if_pos (hshort slots rfl), row]
  | partResetEnd a b => exact absurd rfl (hend a b)
  | resetInput => exact absurd rfl hinput
  | powerOn => exact absurd rfl hpower
  | supplyLow => exact absurd rfl hsupply
  | _ => exact row _

/-- Settles O5: a cause at a ready part, POWER_ON at any, and the rows at a held part. -/
theorem resetsRecordTheirCauseAndHold : Obligations.ResetsRecordTheirCauseAndHold := by
  unfold Obligations.ResetsRecordTheirCauseAndHold
  intro s
  rw [exec_resetInput, exec_supplyLow]
  refine ⟨fun hr begun hbegun => ?_, ?_, fun hh => ?_⟩
  · have hfree := s.hold.eq_of_not_held hr.1
    rw [s.beginHold_ready _ _ hr, s.beginHold_ready _ _ hr, hbegun, hbegun, hfree]
    exact ⟨rfl, rfl⟩
  · exact ⟨(Config.lostPart s.draws).beginReset .powerOn, rfl, rfl, rfl, rfl⟩
  · rw [s.beginHold_held _ _ hh, s.beginHold_held _ _ hh]
    exact ⟨rfl, rfl, fun slots => exec_highwayFrame_held s slots hh, fun c => exec_held s c hh⟩

end Sys2Proof.Machine
end

section
/-!
PROOF. Tone synthesis (R115 to R121, R124): the sine table quarter by quarter, and a sender at a frame.
-/
namespace Sys2Proof.Machine

/-! ### The sine table by quarters (R119) -/

/-- The first quarter of the sine table. -/
theorem sineEntry_first (k : Nat) (h : k ≤ 64) : sineEntry k = Int.ofNat (quarterSine.getD k 0) := if_pos h

/-- The second quarter falls as the first rises. -/
theorem sineEntry_mirror (k : Nat) (h : k ≤ 64) : sineEntry (128 - k) = sineEntry k := by
  rw [sineEntry_first k h]
  rcases Nat.eq_or_lt_of_le h with rfl | h
  · rfl
  · rw [sineEntry, if_neg (by omega), if_pos (by omega), Nat.sub_sub_self (by omega)]

theorem sineEntry_second (k : Nat) (h64 : 64 ≤ k) (h128 : k ≤ 128) : sineEntry k = sineEntry (128 - k) := by
  rw [← sineEntry_mirror (128 - k) (by omega), Nat.sub_sub_self h128]

/-- The second half is the first half negated. -/
theorem sineEntry_half (k : Nat) (h : k ≤ 127) : sineEntry (k + 128) = -sineEntry k := by
  rcases Nat.eq_zero_or_pos k with rfl | h0
  · rfl
  have hk : ¬ k + 128 ≤ 64 ∧ ¬ k + 128 ≤ 128 := by omega
  rw [sineEntry, if_neg hk.1, if_neg hk.2]
  rcases le_or_gt k 64 with h64 | h64
  · rw [if_pos (by omega), Nat.add_sub_cancel, sineEntry_first k h64]
  · rw [if_neg (by omega), sineEntry_second k h64.le (by omega), sineEntry_first _ (by omega),
      show 256 - (k + 128) = 128 - k by omega]

theorem sineEntry_rises (k : Nat) (h : k < 64) : sineEntry k < sineEntry (k + 1) := by
  revert k
  decide

theorem quarterSine_le (n : Nat) (h : n ∈ quarterSine) : n ≤ 8191 := by
  revert n
  decide

theorem sineEntry_first_bounds (k : Nat) (h : k ≤ 64) : 0 ≤ sineEntry k ∧ sineEntry k ≤ 8191 := by
  have hk : k < quarterSine.length := Nat.lt_succ_of_le h
  have hle := quarterSine_le _ (List.getElem_mem hk)
  rw [sineEntry_first k h, List.getD_eq_getElem quarterSine 0 hk]
  exact ⟨Int.natCast_nonneg _, Int.ofNat_le.2 hle⟩

/-- The table lies between its peaks. -/
theorem sineEntry_bounds (k : Nat) (h : k < 256) : -8191 ≤ sineEntry k ∧ sineEntry k ≤ 8191 := by
  have hhalf : ∀ j ≤ 128, 0 ≤ sineEntry j ∧ sineEntry j ≤ 8191 := fun j hj => by
    rcases le_or_gt j 64 with h64 | h64
    · exact sineEntry_first_bounds j h64
    · rw [sineEntry_second j h64.le hj]
      exact sineEntry_first_bounds _ (by omega)
  rcases le_or_gt k 127 with h127 | h127
  · have := hhalf k (by omega)
    omega
  · obtain ⟨j, rfl⟩ := Nat.exists_eq_add_of_le' (show 128 ≤ k by omega)
    have := hhalf j (by omega)
    rw [sineEntry_half j (by omega)]
    omega

/-- Settles O35: the tables entry by entry, the symmetries and bounds by quarters. -/
theorem tonesAndSineTable : Obligations.TonesAndSineTable := by
  unfold Obligations.TonesAndSineTable
  refine ⟨?increments, ?nearest, ?printed, sineEntry_mirror, sineEntry_half, sineEntry_rises, sineEntry_bounds,
    fun _ => rfl⟩
  case increments => decide
  case nearest => decide
  case printed => decide

/-! ### A sender's sample (R120, R121, R124) -/

theorem clampSample_eq (q : Int) : clampSample q = max (-32767) (min 32767 q) := by
  unfold clampSample
  split
  · omega
  · split <;> omega

/-- A clamped sample is what its 16 bits say in two's complement. -/
theorem toInt_ofInt_clampSample (q : Int) : (BitVec.ofInt 16 (clampSample q)).toInt = clampSample q := by
  have hq := clampSample_eq q
  exact BitVec.toInt_ofInt_eq_self (by decide) (by omega) (by omega)

/-- A sender outside TONE_ON hands 0 to the path switch (R124). -/
theorem Sender.sample_silent (x : Sender) (h : x.state ≠ .toneOn) : x.sample = 0 := by
  cases hs : x.state with
  | toneOn => exact absurd hs h
  | free => simp only [Sender.sample, hs]
  | toneOff => simp only [Sender.sample, hs]

theorem Sender.sample_toneOn (x : Sender) (c : Captured) (low high : Half) (hs : x.state = .toneOn)
    (hc : x.captured = some c) (hp : x.phases = some (low, high)) :
    x.sample = BitVec.ofInt 16 (toneSample c.aL c.aH low high) := by
  simp only [Sender.sample, hs, hc, hp]

theorem Sender.takeFrame_free (x : Sender) (h : x.state = .free) : x.takeFrame = x := by
  simp only [Sender.takeFrame, h]

theorem Sender.takeFrame_toneOff (x : Sender) (h : x.state = .toneOff) :
    x.takeFrame = { x with elapsed := x.elapsed + 1 } := by
  simp only [Sender.takeFrame, h]

/-- The accumulators advance modulo 65536 (R117). -/
theorem Sender.takeFrame_toneOn (x : Sender) (y : Symbol) (low high : Half) (hs : x.state = .toneOn)
    (hy : x.symbol = some y) (hp : x.phases = some (low, high)) :
    x.takeFrame = { x with
      elapsed := x.elapsed + 1
      phases := some (low + lowIncrement y, high + highIncrement y) } := by
  simp only [Sender.takeFrame, advancePhases, hs, hy, hp]

/-- Settles O36: a frame and its sample in each sender state. -/
theorem sendersPlayAFrame : Obligations.SendersPlayAFrame := by
  unfold Obligations.SendersPlayAFrame
  intro x
  refine ⟨fun hs => ⟨x.takeFrame_free hs, x.sample_silent (by simp [hs])⟩,
    fun hs => ⟨x.takeFrame_toneOff hs, x.sample_silent (by simp [hs])⟩, fun y c low high hs hy hc hp => ?_⟩
  refine ⟨x.takeFrame_toneOn y low high hs hy hp, ?_⟩
  rw [x.sample_toneOn c low high hs hc hp, toneSample, toInt_ofInt_clampSample, clampSample_eq]
  rfl

end Sys2Proof.Machine
end

section
/-!
PROOF. The settings of chapter 07: what the clamping of a written record stores (R137, R139, R141), the mask that says what
it changed (10.3), and the commands SET PROFILE (R145), WRITE PROFILE, WRITE CONVENTION, WRITE GLOBALS (R140 to R142) and
READ SETTINGS (R144, R191).
-/
namespace Sys2Proof.Machine

/-! ### The stored records -/

theorem clampConvention_eq (b : Byte) : clampConvention b = ⟨min 3 b.toNat, by omega⟩ := by
  unfold clampConvention
  split
  · next h => exact Fin.ext (Nat.min_eq_right (Nat.le_of_lt_succ h)).symm
  · next h => exact Fin.ext (Nat.min_eq_left (by omega)).symm

/-- Settles O39: the dependent bounds of clear_time and commit are ranges, since flash_min ends at 600 and T_on begins at 30. -/
theorem profileFieldsAreClamped : Obligations.ProfileFieldsAreClamped := by
  unfold Obligations.ProfileFieldsAreClamped
  intro r
  have hclear := clampTo_eq (max 170 (min 600 r.flashMin.toNat) + 50) 2000 r.clearTime.toNat (by omega)
  have hcommit := clampTo_eq 10 (max 30 (min 250 r.tOn.toNat)) r.commit.toNat (by omega)
  simp only [clampProfile, hclear, hcommit, clampConvention_eq, gateOf, clampTo_eq, Nat.reduceLeDiff,
    Nat.zero_max]

theorem clampGlobals_eq (r : RawGlobals) : clampGlobals r =
    ⟨max 250 (min 8000 r.auditPeriod.toNat) / 250 * 250, max 1 (min 16 r.runLimit.toNat),
      max 1 (min 32 r.lineCap.toNat)⟩ := by
  simp only [clampGlobals, clampTo_eq, Nat.reduceLeDiff]

theorem storedConvention_get (es : Vector Byte 10) (n : Fin 10) :
    (storedConvention es).get n = if h : (es.get n).toNat < 16 then some ⟨(es.get n).toNat, h⟩ else none :=
  Laws.get_ofFn _ n

/-! ### The mask of what was changed (10.3) -/

theorem bne_eq_decide_ne {α : Type} [DecidableEq α] (a b : α) : (a != b) = decide (a ≠ b) := by
  rw [bne, beq_eq_decide, decide_not]

/-- A detail whose bits are the truth values is their mask. -/
theorem ofNat_maskOf_eq (detail : Half) (bs : List Bool) (h : ∀ n, detail.getLsbD n = bs.getD n false) :
    BitVec.ofNat 16 (maskOf bs) = detail := by
  refine BitVec.eq_of_getLsbD_eq fun n hn => ?_
  rw [BitVec.getLsbD_ofNat, maskOf_testBit, h n, decide_eq_true hn, Bool.true_and]

theorem clampProfile_convention_ne_iff (r : RawProfile) :
    (clampProfile r).convention.val ≠ r.convention.toNat ↔ 3 < r.convention.toNat := by
  change (clampConvention r.convention).val ≠ _ ↔ _
  rw [clampConvention_eq]
  simp only
  omega

theorem clampProfile_seizeGate_ne_iff (r : RawProfile) :
    (clampProfile r).seizeGate.code ≠ r.seizeGate ↔ 1 < r.seizeGate.toNat := by
  have h : ∀ b : Byte, (gateOf b).code ≠ b ↔ 1 < b.toNat := by decide +kernel
  exact h r.seizeGate

theorem conventionChanges_getD (es : Vector Byte 10) (n : Nat) :
    (conventionChanges es).getD n false
      = if h : n < 10 then decide (16 ≤ (es.get ⟨n, h⟩).toNat ∧ es.get ⟨n, h⟩ ≠ 0xFF) else false := by
  rw [conventionChanges, List.getD_eq_getElem?_getD, List.getElem?_map, Vector.getElem?_toList]
  split
  · next h =>
    rw [Vector.getElem?_eq_getElem h, Bool.decide_and]
    rfl
  · next h => simp [Vector.getElem?_eq_none (Nat.le_of_not_lt h)]

/-! ### The commands on a link that takes them -/

section
variable (p : Part) (lk : LinkId) (ht : p.takes lk)
include ht

theorem Part.setProfileCommand_line (l : LineId) (i : ProfileId) (hs : (p.line l).state ≠ .disabled) :
    p.setProfileCommand lk (lowChar l.val) (lowChar i.val)
      = (if (p.line l).profile = i then p.updLine l (fun x => { x with profile := i })
          else (p.updLine l (fun x => { x with profile := i })).reportBoth
            (.lineProfileWritten l (p.line l).profile i lk)).ack lk 0x04 (some (lowChar l.val)) 0 := by
  rw [Part.setProfileCommand, Part.lineProfileCommand_line _ _ _ _ _ _ ht,
    Part.inStates_in _ _ _ _ _ _ _ ((enabledStates_mem _).2 hs)]

theorem Part.writeProfileCommand_profile (i : ProfileId) (r : RawProfile) :
    p.writeProfileCommand lk (lowChar i.val) r
      = ((p.setProfile i (clampProfile r)).reportBoth (.settingsWritten (.profile i (clampProfile r)) lk)).ack lk 0x11
          (some (lowChar i.val)) (BitVec.ofNat 16 (maskOf (profileChanges r))) := by
  rw [Part.writeProfileCommand, p.onLink_takes lk _ ht, profileOf_lowChar]

theorem Part.writeConventionCommand_convention (i : ConventionId) (es : Vector Byte 10) :
    p.writeConventionCommand lk (lowChar i.val) es
      = ((p.setConvention i (storedConvention es)).reportBoth
          (.settingsWritten (.convention i (storedConvention es)) lk)).ack lk 0x12 (some (lowChar i.val))
          (BitVec.ofNat 16 (maskOf (conventionChanges es))) := by
  rw [Part.writeConventionCommand, p.onLink_takes lk _ ht, conventionOf_lowChar]

theorem Part.writeGlobalsCommand_takes (r : RawGlobals) :
    p.writeGlobalsCommand lk r
      = (({ p with globals := clampGlobals r } : Part).reportBoth (.settingsWritten (.globals (clampGlobals r)) lk)).ack
          lk 0x13 none (BitVec.ofNat 16 (maskOf (globalsChanges r))) :=
  p.onLink_takes lk _ ht

theorem Part.readSettingsCommand_named (k b : Byte) (r : Settings) (h : p.namedSettings k b = some r) :
    p.readSettingsCommand lk k b = p.report lk (.profileReply r) := by
  rw [Part.readSettingsCommand, p.onLink_takes lk _ ht, h]

theorem Part.readSettingsCommand_unnamed (k b : Byte) (h : p.namedSettings k b = none) :
    p.readSettingsCommand lk k b = p.reject lk .range 0x14 k := by
  rw [Part.readSettingsCommand, p.onLink_takes lk _ ht, h]

end

/-! ### The record that READ SETTINGS names (R144) -/

theorem Part.namedSettings_profile (p : Part) (i : ProfileId) :
    p.namedSettings 1 (lowChar i.val) = some (.profile i (p.profile i)) := by
  simp [Part.namedSettings, profileOf_lowChar]

theorem Part.namedSettings_convention (p : Part) (i : ConventionId) :
    p.namedSettings 2 (lowChar i.val) = some (.convention i (p.convention i)) := by
  simp [Part.namedSettings, conventionOf_lowChar]

theorem Part.namedSettings_globals (p : Part) (b : Byte) : p.namedSettings 3 b = some (.globals p.globals) := by
  simp [Part.namedSettings]

theorem Part.namedSettings_none (p : Part) (k b : Byte)
    (h : (k = 1 ∧ 8 ≤ b.toNat) ∨ (k = 2 ∧ 4 ≤ b.toNat) ∨ (k ≠ 1 ∧ k ≠ 2 ∧ k ≠ 3)) : p.namedSettings k b = none := by
  rcases h with ⟨rfl, hb⟩ | ⟨rfl, hb⟩ | ⟨h1, h2, h3⟩
  · simp [Part.namedSettings, profileOf_out b hb]
  · simp [Part.namedSettings, conventionOf_out b hb]
  · rw [Part.namedSettings, if_neg h1, if_neg h2, if_neg h3]

/-! ### The rows -/

/-- A command's row at a ready state answers what its command makes of the part (R161). -/
theorem exec_command_ready_eq (c : Instr) (lk : LinkId) (kind : Byte) (body : List Byte) (s : State) (q : Part)
    (hr : s.ready) (hm : commandMessage c = some (lk, kind, body)) (hq : s.part.takeCommand c = q) :
    exec c s = .next (s.withPart q) := by
  rw [exec_command_ready c lk kind body s hr hm, hq]

/-- Settles O38: a line rewritten with the profile it holds is the same line. -/
theorem setProfileMovesOneLine : Obligations.SetProfileMovesOneLine := by
  unfold Obligations.SetProfileMovesOneLine
  intro s lk l i hr ht hs
  have hcommand := s.part.setProfileCommand_line lk ht l i hs
  refine ⟨fun h => exec_command_ready_eq _ lk _ _ s _ hr rfl ?_, fun h => exec_command_ready_eq _ lk _ _ s _ hr rfl ?_⟩
  · have hsame : s.part.updLine l (fun x => { x with profile := i }) = s.part := by
      rw [Part.updLine, ← h]
      exact s.part.setLine_line l
    rw [if_pos h, hsame] at hcommand
    exact hcommand
  · rw [if_neg h] at hcommand
    exact hcommand

/-- Settles O40: each write through its record and its mask, each reading through the record it names. -/
theorem settingsAreWrittenAndRead : Obligations.SettingsAreWrittenAndRead := by
  unfold Obligations.SettingsAreWrittenAndRead
  intro s lk hr ht
  have hread : ∀ k b q, s.part.readSettingsCommand lk k b = q → exec (.readSettings lk k b) s = .next (s.withPart q) :=
    fun k b q => exec_command_ready_eq (.readSettings lk k b) lk _ _ s q hr rfl
  refine ⟨fun i r q detail hq hd => ?profile, fun i es stored detail hst hd => ?convention,
    fun r g detail hg hd => ?globals, fun i => ?readProfile, fun i => ?readConvention, fun b => ?readGlobals,
    fun k b h => ?readRefused⟩
  case profile =>
    have hmask : BitVec.ofNat 16 (maskOf (profileChanges r)) = detail := by
      refine ofNat_maskOf_eq detail _ fun n => ?_
      rw [hd n, hq, profileChanges]
      simp only [bne_eq_decide_ne, clampProfile_convention_ne_iff, clampProfile_seizeGate_ne_iff]
    rw [hq, ← hmask]
    exact exec_command_ready_eq _ lk _ _ s _ hr rfl (s.part.writeProfileCommand_profile lk ht i r)
  case convention =>
    have hmask : BitVec.ofNat 16 (maskOf (conventionChanges es)) = detail :=
      ofNat_maskOf_eq detail _ fun n => (hd n).trans (conventionChanges_getD es n).symm
    have hstored : stored = storedConvention es :=
      Laws.ext_get _ _ fun n => (hst n).trans (storedConvention_get es n).symm
    rw [hstored, ← hmask]
    exact exec_command_ready_eq _ lk _ _ s _ hr rfl (s.part.writeConventionCommand_convention lk ht i es)
  case globals =>
    have hclamp : g = clampGlobals r := hg.trans (clampGlobals_eq r).symm
    have hmask : BitVec.ofNat 16 (maskOf (globalsChanges r)) = detail := by
      refine ofNat_maskOf_eq detail _ fun n => ?_
      rw [hd n, hclamp, globalsChanges]
      simp only [bne_eq_decide_ne]
    rw [hclamp, ← hmask]
    exact exec_command_ready_eq _ lk _ _ s _ hr rfl (s.part.writeGlobalsCommand_takes lk ht r)
  case readProfile =>
    exact hread _ _ _ (s.part.readSettingsCommand_named lk ht _ _ _ (s.part.namedSettings_profile i))
  case readConvention =>
    exact hread _ _ _ (s.part.readSettingsCommand_named lk ht _ _ _ (s.part.namedSettings_convention i))
  case readGlobals =>
    exact hread _ _ _ (s.part.readSettingsCommand_named lk ht _ _ _ (s.part.namedSettings_globals b))
  case readRefused =>
    exact hread _ _ _ (s.part.readSettingsCommand_unnamed lk ht k b (s.part.namedSettings_none k b h))

end Sys2Proof.Machine
end

section
/-!
PROOF. Links stay within their bounds (R163, R165, R168, R171). One link first: what a report, a start, a failure, a tick
and a transmission make of it. Outside chapter 08 the links are reached by reports alone; one lemma for each operation, named
after it.
-/
namespace Sys2Proof.Machine

/-! ### One link -/

section
variable {k : Link} (h : k.kept)
include h

/-- A report is queued below 128 entries and counted at 128, the count up to 65535 (R163, R165). -/
theorem Link.kept.push (r : Report) : (k.push r).kept := by
  obtain ⟨hq, hl, ha, hf⟩ := h
  rcases k.push_cases r with ⟨-, e⟩ | ⟨hs, hr, e⟩ | ⟨hs, -, e⟩ <;> rw [e]
  · exact ⟨hq, hl, ha, hf⟩
  · exact ⟨by rw [List.length_append]; exact hr, hl, ha, fun hs' => absurd hs' hs⟩
  · exact ⟨hq, Nat.min_le_left _ _, ha, fun hs' => absurd hs' hs⟩

theorem Link.kept.tick : k.tick.kept := by
  obtain ⟨hq, hl, ha, hf⟩ := h
  exact ⟨hq, hl, ha.trans Option.map_eq_none_iff.symm, hf⟩

theorem Link.kept.startSending (ready : Bool) : (k.startSending ready).kept := by
  obtain ⟨hq, hl, ha, hf⟩ := h
  rcases k.startSending_cases ready with ⟨r, rest, -, hr, -, e⟩ | e <;> rw [e]
  · rw [hr] at hq hf
    exact ⟨Nat.le_of_succ_le hq, hl, ha, fun hs => absurd (hf hs).1 (List.cons_ne_nil r rest)⟩
  · exact ⟨hq, hl, ha, hf⟩

/-- A FAILED link has no report to count as lost, so its completion queues no LOST (R166, R171). -/
theorem Link.kept.finishSending (stamp : Half) : (k.finishSending stamp).kept := by
  obtain ⟨hq, hl, ha, hf⟩ := h
  rcases k.finishSending_cases stamp with ⟨-, e⟩ | ⟨hpos, hr, e⟩ | ⟨-, e⟩ <;> rw [e]
  · exact ⟨hq, hl, ha, hf⟩
  · exact ⟨by rw [List.length_append]; exact hr, Nat.zero_le _, ha, fun hs => absurd (hf hs).2 (Nat.ne_of_gt hpos)⟩
  · exact ⟨hq, hl, ha, hf⟩

theorem Link.kept.takeCharacter (lk : LinkId) (v : Vector WireLevel 10) (stop : WireLevel) (n : Fin 3) :
    (k.takeCharacter lk v stop n).kept := by
  obtain ⟨a, r, w, e⟩ := k.takeCharacter_cases lk v stop n
  rw [e]
  exact h

end

/-- A link with nothing queued, nothing lost, and a timer that runs outside FAILED alone (R171, R173, R174). -/
theorem Link.kept_emptied (k : Link) (hq : k.queue = []) (hl : k.lost = 0)
    (ha : k.state = .failed ↔ k.auditTimer = none) : k.kept :=
  ⟨by rw [hq]; exact Nat.zero_le _, by rw [hl]; exact Nat.zero_le _, ha, fun _ => ⟨hq, hl⟩⟩

theorem Link.started_kept (k : Link) (challenge : Half) (period : Nat) : (k.started challenge period).kept :=
  Link.kept_emptied _ rfl rfl (by simp [Link.started])

theorem Link.failed_kept (k : Link) :
    ({ k with state := .failed, auditTimer := none, queue := [], lost := 0 } : Link).kept :=
  Link.kept_emptied _ rfl rfl (by simp)

/-- A link outside FAILED whose audit timer is started keeps its bounds (R168). -/
theorem Link.kept.running {k : Link} (h : k.kept) (st : LinkState) (challenge : Half) (n : Nat) (hs : st ≠ .failed) :
    ({ k with state := st, challenge := challenge, auditTimer := some n } : Link).kept := by
  obtain ⟨hq, hl, -, -⟩ := h
  exact ⟨hq, hl, by simp [hs], fun hs' => absurd hs' hs⟩

/-! ### Both links, and the records beside them -/

/-- Both links are within their bounds: `Part.linksKept`, with its parts named. -/
structure Part.linksBounded (p : Part) : Prop where
  linkA : p.linkA.kept
  linkB : p.linkB.kept

theorem Part.linksBounded_iff (p : Part) : p.linksBounded ↔ p.linksKept :=
  ⟨fun ⟨a, b⟩ => ⟨a, b⟩, fun ⟨a, b⟩ => ⟨a, b⟩⟩

section
variable {p : Part} (h : p.linksBounded)
include h

theorem Part.linksBounded.link (lk : LinkId) : (p.link lk).kept := by
  cases lk
  · exact h.linkA
  · exact h.linkB

theorem Part.linksBounded.updLink (lk : LinkId) (f : Link → Link) (hf : (f (p.link lk)).kept) :
    (p.updLink lk f).linksBounded := by
  cases lk
  · exact ⟨hf, h.linkB⟩
  · exact ⟨h.linkA, hf⟩

/-- What touches neither link keeps their bounds. -/
theorem Part.linksBounded.beside {q : Part} (ha : q.linkA = p.linkA) (hb : q.linkB = p.linkB) : q.linksBounded :=
  ⟨ha ▸ h.linkA, hb ▸ h.linkB⟩

theorem Part.linksBounded.setLine (l : LineId) (x : Line) : (p.setLine l x).linksBounded := h.beside rfl rfl
theorem Part.linksBounded.updLine (l : LineId) (f : Line → Line) : (p.updLine l f).linksBounded := h.beside rfl rfl
theorem Part.linksBounded.setSender (k : SenderId) (x : Sender) : (p.setSender k x).linksBounded := h.beside rfl rfl
theorem Part.linksBounded.setTimeBase (f : TimeBase → TimeBase) : (p.setTimeBase f).linksBounded := h.beside rfl rfl
theorem Part.linksBounded.setTraceSlot (i : SlotId) (o : Option LineId) : (p.setTraceSlot i o).linksBounded :=
  h.beside rfl rfl
theorem Part.linksBounded.setProfile (i : ProfileId) (r : Profile) : (p.setProfile i r).linksBounded := h.beside rfl rfl
theorem Part.linksBounded.setConvention (i : ConventionId) (r : Convention) : (p.setConvention i r).linksBounded :=
  h.beside rfl rfl
theorem Part.linksBounded.setGlobals (g : Globals) : ({ p with globals := g } : Part).linksBounded := h.beside rfl rfl
theorem Part.linksBounded.setScan (c : Scan) : ({ p with scan := c } : Part).linksBounded := h.beside rfl rfl
theorem Part.linksBounded.setFree (n : Nat) : ({ p with free := n } : Part).linksBounded := h.beside rfl rfl
theorem Part.linksBounded.setGrantQueue (ls : List LineId) : ({ p with grantQueue := ls } : Part).linksBounded :=
  h.beside rfl rfl

/-! ### Reports -/

theorem Part.linksBounded.report (lk : LinkId) (b : ReportBody) : (p.report lk b).linksBounded :=
  h.updLink lk _ ((h.link lk).push _)
theorem Part.linksBounded.reportBoth (b : ReportBody) : (p.reportBoth b).linksBounded := (h.report .a b).report .b b
theorem Part.linksBounded.ack (lk : LinkId) (k : Byte) (i : Option Byte) (d : Half) : (p.ack lk k i d).linksBounded :=
  h.report lk _
theorem Part.linksBounded.reject (lk : LinkId) (r : RejectReason) (k i : Byte) : (p.reject lk r k i).linksBounded :=
  h.report lk _
theorem Part.linksBounded.lineStateReport (l : LineId) (st : LineState) (c : LineCause) (lk : Option LinkId) (n : Nat) :
    (p.lineStateReport l st c lk n).linksBounded := h.reportBoth _

theorem Part.linksBounded.traceReport (l : LineId) (a : Loop) (n : Nat) (v : Verdict) :
    (p.traceReport l a n v).linksBounded := by
  unfold Part.traceReport
  split
  · exact h.reportBoth _
  · exact h

/-! ### The store and the pool (chapters 04 and 05) -/

theorem Part.linksBounded.grant (l : LineId) (k : SenderId) : (p.grant l k).linksBounded := by
  unfold Part.grant
  split
  · exact h
  · exact (h.setLine l _).setSender k _

theorem Part.linksBounded.grantOnce : p.grantOnce.linksBounded := by
  rcases p.grantOnce_cases with ⟨l, rest, k, -, -, -, e⟩ | e <;> rw [e]
  · exact (h.setGrantQueue rest).grant l k
  · exact h

theorem Part.linksBounded.grantTest : p.grantTest.linksBounded :=
  Part.grantTest_keeps Part.linksBounded (fun _ hq => hq.grantOnce) p h

theorem Part.linksBounded.judge (l : LineId) : (p.judge l).linksBounded :=
  Part.judge_keeps Part.linksBounded (fun _ hq => hq.grantOnce) l (fun _ hq _ => hq.setGrantQueue _) p h

theorem Part.linksBounded.leaveGrantQueue (l : LineId) : (p.leaveGrantQueue l).linksBounded := h.setGrantQueue _

theorem Part.linksBounded.commit (l : LineId) (k : SenderId) (m : Manner) : (p.commit l k m).linksBounded := by
  unfold Part.commit
  split
  · exact h
  · exact ((h.setLine l _).setFree _).reportBoth _

theorem Part.linksBounded.flush (l : LineId) : (p.flush l).linksBounded := (h.setLine l _).setFree _
theorem Part.linksBounded.enqueue (l : LineId) (c : Cell) : (p.enqueue l c).linksBounded :=
  (h.setLine l _).setFree _

theorem Part.linksBounded.restoreHead (l : LineId) : (p.restoreHead l).linksBounded := by
  unfold Part.restoreHead
  split
  · exact h
  · exact h.setLine l _

theorem Part.linksBounded.freeSender (l : LineId) (k : SenderId) : (p.freeSender l k).linksBounded :=
  (h.setLine l _).setSender k _

theorem Part.linksBounded.abortOnly (l : LineId) : (p.abortOnly l).linksBounded := by
  cases hk : (p.line l).sender with
  | none => simpa only [Part.abortOnly, hk] using h
  | some k =>
    rcases p.abortOnly_cases l k hk with ⟨-, -, e⟩ | ⟨-, -, e⟩ | ⟨-, e⟩ <;> rw [e]
    · exact (h.commit l k _).freeSender l k
    · exact (h.restoreHead l).freeSender l k
    · exact h.freeSender l k

theorem Part.linksBounded.abort (l : LineId) : (p.abort l).linksBounded := by
  unfold Part.abort
  split
  · exact h
  · exact (h.abortOnly l).grantTest

theorem Part.linksBounded.continueBurst (l : LineId) (k : SenderId) : (p.continueBurst l k).linksBounded := by
  unfold Part.continueBurst
  split
  · exact h
  · exact (h.setLine l _).setSender k _

theorem Part.linksBounded.onPhaseEnd (k : SenderId) : (p.onPhaseEnd k).linksBounded := by
  unfold Part.onPhaseEnd
  split
  · exact (h.commit _ k _).setSender k _
  · exact h

theorem Part.linksBounded.toneOffEnd (k : SenderId) : (p.toneOffEnd k).linksBounded := by
  unfold Part.toneOffEnd
  repeat' split
  · exact h.continueBurst _ k
  · exact ((h.freeSender _ k).judge _).grantTest
  · exact h

theorem Part.linksBounded.offerDigit (l : LineId) (x : Symbol) (n : Nat) (mean : Option Nat) (c : ConventionId) :
    (p.offerDigit l x n mean c).linksBounded := by
  unfold Part.offerDigit
  dsimp only
  split
  · exact ((h.updLine l _).reportBoth _).reportBoth _
  · exact (((h.updLine l _).reportBoth _).enqueue l _).judge l

theorem Part.linksBounded.injectSymbols (lk : LinkId) (line : Byte) (l : LineId) (xs : List Symbol) :
    (p.injectSymbols lk line l xs).linksBounded := by
  have hi : (p.injectAll lk l xs).linksBounded :=
    (foldl_keeps Part.linksBounded _ (fun _ _ hq => ((hq.updLine l _).enqueue l _).reportBoth _) xs p h).judge l
  unfold Part.injectSymbols
  split
  · exact h.report lk _
  · exact hi.ack lk _ _ _

/-! ### The supervisor (chapter 03) -/

theorem Part.linksBounded.startTimer (l : LineId) (k : TimerKind) : (p.startTimer l k).linksBounded := h.updLine l _
theorem Part.linksBounded.dropDigit (l : LineId) : (p.dropDigit l).linksBounded := h.updLine l _
theorem Part.linksBounded.stopTimer (l : LineId) : (p.stopTimer l).linksBounded := h.updLine l _
theorem Part.linksBounded.raiseFlaps (l : LineId) : (p.raiseFlaps l).linksBounded := h.updLine l _
theorem Part.linksBounded.enterState (l : LineId) (st : LineState) : (p.enterState l st).linksBounded := h.updLine l _

theorem Part.linksBounded.enterWithTimer (l : LineId) (st : LineState) : (p.enterWithTimer l st).linksBounded := by
  unfold Part.enterWithTimer
  split
  · exact h.enterState l st
  · exact (h.enterState l st).startTimer l _

theorem Part.linksBounded.seize (l : LineId) : (p.seize l).linksBounded := (h.updLine l _).enterWithTimer l .active

theorem Part.linksBounded.giveUpSender (l : LineId) : (p.giveUpSender l).linksBounded := (h.abort l).leaveGrantQueue l

theorem Part.linksBounded.leaveFor (l : LineId) (st : LineState) (c : LineCause) (lk : Option LinkId) :
    (p.leaveFor l st c lk).linksBounded := by
  have hc : (p.clearOut l).linksBounded := ((h.dropDigit l).stopTimer l).giveUpSender l
  exact ((hc.flush l).enterWithTimer l st).lineStateReport l _ c lk _

theorem Part.linksBounded.quarantine (l : LineId) (c : LineCause) : (p.quarantine l c).linksBounded :=
  h.leaveFor l _ c none

theorem Part.linksBounded.superviseTransition (l : LineId) (new : Loop) : (p.superviseTransition l new).linksBounded := by
  unfold Part.superviseTransition Part.abandonSeizure
  split
  · exact h.enterWithTimer l .seizing
  · split
    · exact (h.raiseFlaps l).quarantine l .flap
    · exact (h.raiseFlaps l).enterWithTimer l .idle
  · exact h.updLine l _
  · exact h.startTimer l .settle
  · exact h

theorem Part.linksBounded.takeClear (l : LineId) : (p.takeClear l).linksBounded := by
  unfold Part.takeClear
  split
  · split
    · split
      · exact (h.raiseFlaps l).quarantine l .flap
      · exact (h.raiseFlaps l).leaveFor l .idle .clear none
    · exact h.leaveFor l .idle .clear none
  · exact h.leaveFor l .idle .clear none
  · exact h.leaveFor l .idle .clear none
  all_goals exact h

theorem Part.linksBounded.restExpiry (l : LineId) : (p.restExpiry l).linksBounded := by
  unfold Part.restExpiry
  split
  · exact h.updLine l _
  · exact h

theorem Part.linksBounded.seizeExpiry (l : LineId) : (p.seizeExpiry l).linksBounded := by
  unfold Part.seizeExpiry
  split
  · exact ((h.seize l).lineStateReport l _ _ _ _).judge l
  · exact h

theorem Part.linksBounded.firstDigitExpiry (l : LineId) : (p.firstDigitExpiry l).linksBounded := by
  unfold Part.firstDigitExpiry
  split
  · exact h.leaveFor l _ _ none
  · exact h

theorem Part.linksBounded.partialExpiry (l : LineId) : (p.partialExpiry l).linksBounded := by
  unfold Part.partialExpiry
  split
  · exact h.leaveFor l _ _ none
  · exact h

theorem Part.linksBounded.settleExpiry (l : LineId) : (p.settleExpiry l).linksBounded := by
  unfold Part.settleExpiry
  split
  · exact (h.enterWithTimer l _).lineStateReport l _ _ _ _
  · exact h

theorem Part.linksBounded.faultReviewed (l : LineId) : (p.faultReviewed l).linksBounded := by
  cases hs : (p.line l).state <;> simp only [Part.faultReviewed, hs]
  case disabled => exact h
  case quarantine => exact h.startTimer l .settle
  all_goals
    split
    · exact h.quarantine l .fault
    · exact h

theorem Part.linksBounded.reviewLine (l : LineId) : (p.reviewLine l).linksBounded := by
  have hc : (p.classed l).linksBounded := by
    rw [Part.classed_eq]
    split
    · exact h.setLine l _
    · exact (h.setLine l _).reportBoth _
  by_cases hd : (p.line l).state = .disabled
  · rw [p.reviewLine_disabled l hd]
    exact h
  · rw [p.reviewLine_enabled l hd]
    split
    · exact hc.faultReviewed l
    · exact hc

theorem Part.linksBounded.classReview : p.classReview.linksBounded := by
  have hr : p.reviewTaken.linksBounded := h.beside rfl rfl
  unfold Part.classReview
  dsimp only
  repeat' split
  · exact hr
  · exact Part.forLines_keeps Part.linksBounded _ (fun l _ hq => hq.reviewLine l) _ hr
  · exact h

/-! ### The decoder (chapter 02) -/

theorem Part.linksBounded.setTests (l : LineId) (t : SampleTests) : (p.setTests l t).linksBounded := h.updLine l _
theorem Part.linksBounded.accumulate (l : LineId) (t : LineTime) : (p.accumulate l t).linksBounded := h.updLine l _
theorem Part.linksBounded.startRun (l : LineId) (a : Loop) (t : LineTime) : (p.startRun l a t).linksBounded :=
  h.updLine l _

theorem Part.linksBounded.endRun (l : LineId) (new : Loop) (t : LineTime) : (p.endRun l new t).linksBounded := by
  unfold Part.endRun
  dsimp only
  repeat' split
  · exact h.updLine l _
  · exact (h.updLine l _).traceReport l _ _ _
  · exact h.updLine l _

theorem Part.linksBounded.digitErrorReport (l : LineId) (r : DigitErrorReason) (g : Digit) :
    (p.digitErrorReport l r g).linksBounded := h.reportBoth _

theorem Part.linksBounded.breakDigit (l : LineId) : (p.breakDigit l).linksBounded := by
  unfold Part.breakDigit
  split
  · exact h
  · exact (h.dropDigit l).digitErrorReport l _ _

theorem Part.linksBounded.openRunActive (l : LineId) (v : Verdict) (b : Nat) : (p.openRunActive l v b).linksBounded := by
  unfold Part.openRunActive
  dsimp only
  split
  · exact (h.updLine l _).startTimer l _
  · exact h.updLine l _
  · exact ((h.breakDigit l).reportBoth _).startTimer l _

theorem Part.linksBounded.openRunConverse (l : LineId) (v : Verdict) (b : Nat) :
    (p.openRunConverse l v b).linksBounded := by
  unfold Part.openRunConverse
  split
  · exact h.reportBoth _
  · exact h

theorem Part.linksBounded.settleOpen (l : LineId) (b : Nat) : (p.settleOpen l b).linksBounded := by
  unfold Part.settleOpen
  dsimp only
  split
  · exact (h.traceReport l _ b _).openRunActive l _ b
  · exact (h.traceReport l _ b _).openRunConverse l _ b
  · exact h.traceReport l _ b _

theorem Part.linksBounded.settleClosed (l : LineId) (m : Nat) : (p.settleClosed l m).linksBounded := by
  unfold Part.settleClosed
  dsimp only
  split
  · exact (h.traceReport l _ m _).updLine l _
  · exact h.traceReport l _ m _

theorem Part.linksBounded.settleEnded (l : LineId) : (p.settleEnded l).linksBounded := by
  unfold Part.settleEnded
  dsimp only
  repeat' split
  · exact h
  · exact (h.updLine l _).settleOpen l _
  · exact (h.updLine l _).settleClosed l _

theorem Part.linksBounded.confirmationStage (l : LineId) : (p.confirmationStage l).linksBounded := by
  unfold Part.confirmationStage
  repeat' split
  · exact ((h.setTests l .limit).updLine l _).settleEnded l
  · exact h.setTests l .limit
  · exact h

theorem Part.linksBounded.endDigit (l : LineId) (g : Digit) : (p.endDigit l g).linksBounded := by
  unfold Part.endDigit
  dsimp only
  split
  · exact ((h.dropDigit l).digitErrorReport l _ g).startTimer l _
  · exact (((h.dropDigit l).offerDigit l _ _ _ _).updLine l _).startTimer l _

theorem Part.linksBounded.gapStage (l : LineId) : (p.gapStage l).linksBounded := by
  unfold Part.gapStage Part.gapTest
  repeat' split
  · exact ((h.setTests l .made).traceReport l _ _ _).endDigit l _
  · exact h.setTests l .made
  · exact h

theorem Part.linksBounded.clearStage (l : LineId) : (p.clearStage l).linksBounded := by
  unfold Part.clearStage Part.clearTest
  repeat' split
  · exact ((h.setTests l .made).traceReport l _ _ _).takeClear l
  · exact h.setTests l .made
  · exact h

/-! ### The links (chapter 08) -/

theorem Part.linksBounded.dropWaiting (lk : LinkId) : (p.dropWaiting lk).linksBounded := h.updLink lk _ (h.link lk)

theorem Part.linksBounded.failLink (lk : LinkId) (c : PlaneCause) : (p.failLink lk c).linksBounded :=
  (h.updLink lk _ (Link.failed_kept _)).report lk.other _

theorem Part.linksBounded.receiveError (lk : LinkId) (e : ErrorInfo) : (p.receiveError lk e).linksBounded := by
  rcases p.receiveError_cases lk e with ⟨-, k⟩ | ⟨-, k⟩ | ⟨-, k⟩ <;> rw [k]
  · exact h.report lk _
  · exact h.failLink lk _
  · exact h

theorem Part.linksBounded.auditExpiry (lk : LinkId) : (p.auditExpiry lk).linksBounded := by
  unfold Part.auditExpiry
  dsimp only
  repeat' split
  · exact ((h.updLink lk _ ((h.link lk).running .suspect _ _ (by decide))).report lk _).report lk.other _
  · exact h.failLink lk _
  · exact h
  · exact h

theorem Part.linksBounded.auditReturn (lk : LinkId) (st : LinkState) : (p.auditReturn lk st).linksBounded := by
  unfold Part.auditReturn
  split
  · exact (h.report lk _).report lk.other _
  · exact h

theorem Part.linksBounded.restoreLink (lk : LinkId) : (p.restoreLink lk).linksBounded :=
  ((h.updLink lk _ (Link.started_kept _ _ _)).report lk _).report lk.other _

theorem Part.linksBounded.auditCommand (lk : LinkId) (ch : Half) : (p.auditCommand lk ch).linksBounded := by
  have ha := h.updLink lk
    (fun k => { k with state := .alive, auditTimer := some p.globals.auditPeriod, challenge := ch + 1 })
    ((h.link lk).running .alive _ _ (by decide))
  unfold Part.auditCommand
  split
  · exact h.restoreLink lk
  all_goals
    split
    · exact (ha.auditReturn lk _).report lk _
    · exact h.report lk _

theorem Part.linksBounded.longBreak (lk : LinkId) : (p.longBreak lk).linksBounded := by
  unfold Part.longBreak Part.restartLink
  split
  · exact ((h.updLink lk _ ((p.link lk).started_kept p.stamp p.globals.auditPeriod)).report lk _).report lk.other _
  · exact h

theorem Part.linksBounded.gapTimerExpiry (lk : LinkId) : (p.gapTimerExpiry lk).linksBounded := by
  unfold Part.gapTimerExpiry
  split
  · exact (h.updLink lk _ (h.link lk)).receiveError lk _
  · exact h

theorem Part.linksBounded.shortBreak (lk : LinkId) : (p.shortBreak lk).linksBounded := by
  unfold Part.shortBreak
  split
  · exact (h.updLink lk _ (h.link lk)).receiveError lk _
  · exact h.updLink lk _ (h.link lk)
  · exact h
  · exact h

theorem Part.linksBounded.returnToMarking (lk : LinkId) : (p.returnToMarking lk).linksBounded := by
  unfold Part.returnToMarking
  split
  · exact h.updLink lk _ (h.link lk)
  · exact h
  · exact h

/-! ### The scan port (chapter 01) -/

theorem Part.linksBounded.firstSample (l : LineId) (c : Nat) (t : LineTime) : (p.firstSample l c t).linksBounded := by
  unfold Part.firstSample
  dsimp only
  split
  · exact ((h.updLine l _).startRun l _ t).enterWithTimer l .seizing
  · exact (h.updLine l _).startRun l _ t

theorem Part.linksBounded.debouncedSample (l : LineId) (c : Nat) (t : LineTime) :
    (p.debouncedSample l c t).linksBounded := by
  unfold Part.debouncedSample
  dsimp only
  split
  · exact ((((h.updLine l _).endRun l _ _).accumulate l t).superviseTransition l _).setTests l _
  · exact ((h.updLine l _).accumulate l t).setTests l _

theorem Part.linksBounded.handSample (l : LineId) (c : Nat) (t : LineTime) : (p.handSample l c t).linksBounded := by
  unfold Part.handSample
  repeat' split
  · exact h
  · exact h.firstSample l c t
  · exact h.debouncedSample l c t

theorem Part.linksBounded.restoreSample (l : LineId) (c : Nat) (t : LineTime) : (p.restoreSample l c t).linksBounded := by
  unfold Part.restoreSample
  dsimp only
  repeat' split
  · exact h
  · exact h.firstSample l c t
  · exact (h.updLine l _).startRun l _ t
  · exact ((h.updLine l _).startRun l _ t).superviseTransition l _

theorem Part.linksBounded.loseLine (l : LineId) : (p.loseLine l).linksBounded := by
  unfold Part.loseLine
  split
  · exact h
  · exact h
  · exact ((h.dropDigit l).digitErrorReport l _ _).startTimer l _

theorem Part.linksBounded.handHeld (t : LineTime) : (p.handHeld t).linksBounded :=
  Part.forLines_keeps Part.linksBounded _ (fun l _ hq => hq.handSample l _ t) p h

theorem Part.linksBounded.scanMiss (t : LineTime) : (p.scanMiss t).linksBounded := by
  unfold Part.scanMiss Part.loseScan
  repeat' split
  · exact h
  · exact (h.setScan _).handHeld t
  · exact Part.forLines_keeps Part.linksBounded _ (fun l _ hq => hq.loseLine l) _ ((h.setScan _).reportBoth _)

theorem Part.linksBounded.judgeFrame (bs : List Byte) (t : LineTime) : (p.judgeFrame bs t).linksBounded := by
  unfold Part.judgeFrame Part.restoreScan
  dsimp only
  repeat' split
  · exact (h.setScan _).handHeld t
  · exact Part.forLines_keeps Part.linksBounded _ (fun l _ hq => hq.restoreSample l _ t) _ ((h.setScan _).reportBoth _)
  · exact h.scanMiss t

theorem Part.linksBounded.takeScanBytes (bs : List Byte) : (p.takeScanBytes bs).linksBounded := by
  unfold Part.takeScanBytes
  dsimp only
  repeat' split
  · exact h
  · exact (h.setScan _).judgeFrame _ _
  · exact h.setScan _

theorem Part.linksBounded.strobe (now : LineTime) : (p.strobe now).linksBounded := by
  unfold Part.strobe
  dsimp only
  repeat' split
  · exact h.setScan _
  · exact (h.scanMiss _).setScan _
  · exact h.setScan _

/-! ### The commands -/

/-- A command for a line in the states of its rule keeps the bounds where its effect does (R65, R161). -/
theorem Part.linksBounded.lineCommand (lk : LinkId) (kind line : Byte) (states : List LineState)
    {f : LineId → Part → Part} (hf : ∀ l q, q.linksBounded → (f l q).linksBounded) :
    (p.lineCommand lk kind line (fun l q => q.inStates lk kind line l states (f l))).linksBounded :=
  Part.lineCommand_keeps Part.linksBounded lk kind line (fun _ hq => hq.reject lk _ _ _)
    (fun l q hq => Part.inStates_keeps Part.linksBounded lk kind line l states (hq.reject lk _ _ _) (hf l q hq)) h

/-- The same for a command for a line and a profile. -/
theorem Part.linksBounded.lineProfileCommand (lk : LinkId) (kind line profile : Byte) (states : List LineState)
    {f : LineId → ProfileId → Part → Part} (hf : ∀ l i q, q.linksBounded → (f l i q).linksBounded) :
    (p.lineProfileCommand lk kind line profile (fun l i q => q.inStates lk kind line l states (f l i))).linksBounded :=
  Part.lineProfileCommand_keeps Part.linksBounded lk kind line profile (fun _ hq => hq.reject lk _ _ _)
    (fun l i q hq => Part.inStates_keeps Part.linksBounded lk kind line l states (hq.reject lk _ _ _) (hf l i q hq)) h

theorem Part.linksBounded.freeTrace (l : LineId) : (p.freeTrace l).linksBounded := by
  unfold Part.freeTrace
  split
  · exact h
  · exact (h.setTraceSlot _ none).updLine l _

theorem Part.linksBounded.setGate (lk : LinkId) (l : LineId) (g : Gate) (c : LineCause) :
    (p.setGate lk l g c).linksBounded := by
  have hg : ∀ st, ((p.updLine l (fun x => { x with gate := g })).lineStateReport l st c (some lk) 0).linksBounded :=
    fun _ => (h.updLine l _).reportBoth _
  unfold Part.setGate Part.gateChanged
  repeat' split
  · exact h
  · exact (hg _).judge l
  · exact (hg _).leaveGrantQueue l
  · exact hg _

theorem Part.linksBounded.restoreEntry (l : LineId) : (p.restoreEntry l).linksBounded := by
  unfold Part.restoreEntry
  split
  · exact h.enterWithTimer l .idle
  · exact h.seize l

theorem Part.linksBounded.withdraw (lk : LinkId) (l : LineId) : (p.withdraw lk l).linksBounded :=
  ((h.giveUpSender l).flush l).lineStateReport l _ _ _ _

theorem Part.linksBounded.enableCommand (lk : LinkId) (line profile : Byte) :
    (p.enableCommand lk line profile).linksBounded :=
  h.lineProfileCommand lk _ line profile _ (fun l _ _ hq =>
    (((hq.updLine l _).enterWithTimer l _).lineStateReport l _ _ _ _).ack lk _ _ _)

theorem Part.linksBounded.setProfileCommand (lk : LinkId) (line profile : Byte) :
    (p.setProfileCommand lk line profile).linksBounded := by
  refine h.lineProfileCommand lk _ line profile _ (fun l i q hq => ?_)
  dsimp only
  split
  · exact (hq.updLine l _).ack lk _ _ _
  · exact ((hq.updLine l _).reportBoth _).ack lk _ _ _

theorem Part.linksBounded.resumeCommand (lk : LinkId) (line : Byte) : (p.resumeCommand lk line).linksBounded :=
  h.lineCommand lk _ line _ (fun l _ hq =>
    ((((hq.updLine l _).enterWithTimer l _).lineStateReport l _ _ _ _).judge l).ack lk _ _ _)

theorem Part.linksBounded.restoreCommand (lk : LinkId) (line : Byte) : (p.restoreCommand lk line).linksBounded :=
  h.lineCommand lk _ line _ (fun l _ hq =>
    ((((hq.updLine l _).restoreEntry l).lineStateReport l _ _ _ _).judge l).ack lk _ _ _)

theorem Part.linksBounded.injectCommand (lk : LinkId) (line : Byte) (codes : List Byte) :
    (p.injectCommand lk line codes).linksBounded := by
  refine h.lineCommand lk _ line _ (fun l q hq => ?_)
  repeat' split
  · exact hq.reject lk _ _ _
  · exact hq.reject lk _ _ _
  · exact hq.injectSymbols lk line l _

theorem Part.linksBounded.traceOnCommand (lk : LinkId) (line : Byte) : (p.traceOnCommand lk line).linksBounded := by
  refine h.lineCommand lk _ line _ (fun l q hq => ?_)
  split
  · exact hq.ack lk _ _ _
  · exact ((hq.setTraceSlot _ _).updLine l _).ack lk _ _ _
  · exact hq.reject lk _ _ _

theorem Part.linksBounded.writeProfileCommand (lk : LinkId) (profile : Byte) (r : RawProfile) :
    (p.writeProfileCommand lk profile r).linksBounded := by
  refine Part.onLink_keeps Part.linksBounded lk (fun q hq => ?_) h
  split
  · exact hq.reject lk _ _ _
  · exact ((hq.setProfile _ _).reportBoth _).ack lk _ _ _

theorem Part.linksBounded.writeConventionCommand (lk : LinkId) (convention : Byte) (es : Vector Byte 10) :
    (p.writeConventionCommand lk convention es).linksBounded := by
  refine Part.onLink_keeps Part.linksBounded lk (fun q hq => ?_) h
  split
  · exact hq.reject lk _ _ _
  · exact ((hq.setConvention _ _).reportBoth _).ack lk _ _ _

theorem Part.linksBounded.readSettingsCommand (lk : LinkId) (kind index : Byte) :
    (p.readSettingsCommand lk kind index).linksBounded := by
  refine Part.onLink_keeps Part.linksBounded lk (fun q hq => ?_) h
  split
  · exact hq.reject lk _ _ _
  · exact hq.report lk _

theorem Part.linksBounded.takeCommand (c : Instr) : (p.takeCommand c).linksBounded := by
  cases c with
  | audit lk ch => exact h.auditCommand lk ch
  | enable lk l i => exact h.enableCommand lk l i
  | disable lk l =>
    exact h.lineCommand lk _ l _ (fun m _ hq => ((hq.freeTrace m).leaveFor m _ _ _).ack lk _ _ _)
  | setProfile lk l i => exact h.setProfileCommand lk l i
  | openGate lk l => exact h.lineCommand lk _ l _ (fun m _ hq => (hq.setGate lk m _ _).ack lk _ _ _)
  | shutGate lk l => exact h.lineCommand lk _ l _ (fun m _ hq => (hq.setGate lk m _ _).ack lk _ _ _)
  | converse lk l => exact h.lineCommand lk _ l _ (fun m _ hq => (hq.leaveFor m _ _ _).ack lk _ _ _)
  | resume lk l => exact h.resumeCommand lk l
  | park lk l => exact h.lineCommand lk _ l _ (fun m _ hq => (hq.leaveFor m _ _ _).ack lk _ _ _)
  | restore lk l => exact h.restoreCommand lk l
  | withdraw lk l => exact h.lineCommand lk _ l _ (fun m _ hq => (hq.withdraw lk m).ack lk _ _ _)
  | inject lk l xs => exact h.injectCommand lk l xs
  | relearn lk l => exact h.lineCommand lk _ l _ (fun m _ hq => (hq.updLine m _).ack lk _ _ _)
  | traceOn lk l => exact h.traceOnCommand lk l
  | traceOff lk l =>
    exact Part.lineCommand_keeps Part.linksBounded lk _ l (fun _ hq => hq.reject lk _ _ _)
      (fun m _ hq => (hq.freeTrace m).ack lk _ _ _) h
  | queryLine lk l =>
    exact Part.lineCommand_keeps Part.linksBounded lk _ l (fun _ hq => hq.reject lk _ _ _)
      (fun _ _ hq => hq.report lk _) h
  | writeProfile lk i r => exact h.writeProfileCommand lk i r
  | writeConvention lk i es => exact h.writeConventionCommand lk i es
  | writeGlobals lk r =>
    exact Part.onLink_keeps Part.linksBounded lk (fun _ hq => ((hq.setGlobals _).reportBoth _).ack lk _ _ _) h
  | readSettings lk k i => exact h.readSettingsCommand lk k i
  | _ => exact h

/-! ### Time (chapter 09) -/

theorem Part.linksBounded.lockingTimeout : p.lockingTimeout.linksBounded := by
  unfold Part.lockingTimeout
  dsimp only
  repeat' split
  · exact ((h.setTimeBase _).setTimeBase _).reportBoth _
  · exact h.setTimeBase _
  · exact h

theorem Part.linksBounded.expireLine (l : LineId) : (p.expireLine l).linksBounded :=
  ((((h.restExpiry l).seizeExpiry l).firstDigitExpiry l).partialExpiry l).settleExpiry l

theorem Part.linksBounded.expireLink (lk : LinkId) : (p.expireLink lk).linksBounded :=
  ((h.longBreak lk).gapTimerExpiry lk).auditExpiry lk

theorem Part.linksBounded.settleExpiries : p.settleExpiries.linksBounded :=
  ((Part.forLines_keeps Part.linksBounded _ (fun l _ hq => hq.expireLine l) _ h.classReview).expireLink .a).expireLink .b

theorem Part.linksBounded.settlePhases : p.settlePhases.linksBounded :=
  Part.forSenders_keeps Part.linksBounded _ (fun k _ hq => (hq.onPhaseEnd k).toneOffEnd k) p h

theorem Part.linksBounded.tickCore : p.tickCore.linksBounded := by
  have ht : p.ticked.linksBounded := by
    rw [Part.ticked_eq]
    exact ⟨h.linkA.tick, h.linkB.tick⟩
  exact ht.strobe _

theorem Part.linksBounded.abortForLoss (k : SenderId) : (p.abortForLoss k).linksBounded := by
  unfold Part.abortForLoss
  split
  · exact h
  · exact (h.abortOnly _).judge _
  · exact h.setSender k _

theorem Part.linksBounded.loseClock : p.loseClock.linksBounded := by
  have ht : (p.settlePhases.settleExpiries.setTimeBase
      (fun t => { t with state := .fallback, divider := 0, runCount := 0 })).tickCore.linksBounded :=
    (h.settlePhases.settleExpiries.setTimeBase _).tickCore
  exact (Part.forSenders_keeps Part.linksBounded _ (fun k _ hq => hq.abortForLoss k) _ ht).reportBoth _

theorem Part.linksBounded.watchdogExpiry : p.watchdogExpiry.linksBounded := by
  unfold Part.watchdogExpiry
  split
  · exact h
  · exact h
  · exact (h.setTimeBase _).loseClock
  · exact h.setTimeBase _

theorem Part.linksBounded.enterLocked : p.enterLocked.linksBounded :=
  ((h.setTimeBase _).reportBoth _).grantTest

theorem Part.linksBounded.takeFrame : p.takeFrame.linksBounded := by
  have hf : p.sendersTakeFrame.linksBounded := h.beside rfl rfl
  unfold Part.takeFrame Part.countFrame
  dsimp only
  repeat' split
  · exact ((hf.setTimeBase _).setTimeBase _).tickCore
  · exact (hf.setTimeBase _).setTimeBase _
  · exact (hf.setTimeBase _).enterLocked
  · exact (hf.setTimeBase _).setTimeBase _
  · exact (hf.setTimeBase _).enterLocked
  · exact (hf.setTimeBase _).setTimeBase _

end

/-- A link at the end of a part reset holds its LINK START alone (R189). -/
theorem Link.atReset_kept (cause : ResetCause) (w : WireLevel) : (Link.atReset cause w).kept :=
  ⟨(by decide : 1 ≤ 128), Nat.zero_le _, by simp [Link.atReset], fun hs => absurd hs (by simp [Link.atReset])⟩

/-- The operations of the rows keep both links within their bounds. -/
theorem Part.linksBounded_keptByRows : Part.KeptByRows Part.linksBounded where
  confirmationStage l _ h := h.confirmationStage l
  gapStage l _ h := h.gapStage l
  clearStage l _ h := h.clearStage l
  lockingTimeout _ h := h.lockingTimeout
  dropWaiting lk _ h := h.dropWaiting lk
  receiveError lk e _ h := h.receiveError lk e
  takeCommand c _ h := h.takeCommand c
  takeScanBytes bs _ h := h.takeScanBytes bs
  classReview _ h := h.classReview
  restExpiry l _ h := h.restExpiry l
  seizeExpiry l _ h := h.seizeExpiry l
  firstDigitExpiry l _ h := h.firstDigitExpiry l
  partialExpiry l _ h := h.partialExpiry l
  settleExpiry l _ h := h.settleExpiry l
  longBreak lk _ h := h.longBreak lk
  shortBreak lk _ h := h.shortBreak lk
  returnToMarking lk _ h := h.returnToMarking lk
  gapTimerExpiry lk _ h := h.gapTimerExpiry lk
  auditExpiry lk _ h := h.auditExpiry lk
  startSending lk ready _ h := h.updLink lk _ ((h.link lk).startSending ready)
  finishTransmission lk p h := h.updLink lk _ ((h.link lk).finishSending p.stamp)
  takeCharacter lk v stop n _ h := h.updLink lk _ ((h.link lk).takeCharacter lk v stop n)
  onPhaseEnd k _ h := h.onPhaseEnd k
  toneOffEnd k _ h := h.toneOffEnd k
  watchdogExpiry _ h := h.watchdogExpiry
  setWatchdog _ _ h := h.setTimeBase _
  tickCore _ h := h.tickCore
  takeFrame _ h := h.takeFrame
  atReset cause a b := ⟨Link.atReset_kept cause a, Link.atReset_kept cause b⟩

/-- Settles O58: rows reach the links by reports, starts, failures, ticks and transmissions, each within the bounds. -/
theorem linksStayWithinTheirBounds : Obligations.LinksStayWithinTheirBounds := by
  unfold Obligations.LinksStayWithinTheirBounds
  rw [← show Part.linksBounded = Part.linksKept from funext fun p => propext p.linksBounded_iff]
  exact keptByEveryStep_of_rows Part.linksBounded_keptByRows

end Sys2Proof.Machine
end

section
/-!
SUPPORT. What the rows of chapter 08 come to at a ready state, and the answers to receive errors, said once.
-/
namespace Sys2Proof.Machine

/-! ### A link written where it stands -/

@[simp] theorem Part.setLink_link (p : Part) (lk : LinkId) : p.setLink lk (p.link lk) = p := by cases lk <;> rfl

@[simp] theorem Part.setLink_setLink (p : Part) (lk : LinkId) (j k : Link) :
    (p.setLink lk j).setLink lk k = p.setLink lk k := by cases lk <;> rfl

/-- A row that takes what may not wait first acts on a ready state at once. -/
theorem State.onPart_ready (s : State) (f : Part → Part) (h : s.ready) :
    s.onPart (fun p => f p.settleUrgent) = s.withPart (f s.part) := by
  rw [State.onPart_working s _ h.1, s.part.settleUrgent_settled h.2]
  rfl

/-! ### The rows at a ready state -/

section
variable (s : State) (lk : LinkId) (h : s.ready)
include h

theorem exec_characterTaken_ready (v : Vector WireLevel 10) (stop : WireLevel) (n : Fin 3) :
    exec (.characterTaken lk v stop n) s
      = .next (s.withPart (s.part.setLink lk ((s.part.link lk).takeCharacter lk v stop n))) :=
  congrArg Host.Outcome.next (s.onPart_ready (·.updLink lk (fun k => k.takeCharacter lk v stop n)) h)

theorem exec_gapTimerExpiry_ready : exec (.gapTimerExpiry lk) s = .next (s.withPart (s.part.gapTimerExpiry lk)) :=
  congrArg Host.Outcome.next (s.onPart_ready (·.gapTimerExpiry lk) h)

theorem exec_shortBreak_ready :
    exec (.shortBreak lk) s = .next (s.withPart ((s.part.longBreak lk).shortBreak lk)) :=
  congrArg Host.Outcome.next (s.onPart_ready (fun p => (p.longBreak lk).shortBreak lk) h)

theorem exec_longBreak_ready : exec (.longBreak lk) s = .next (s.withPart (s.part.longBreak lk)) :=
  congrArg Host.Outcome.next (s.onPart_ready (·.longBreak lk) h)

theorem exec_returnToMarking_ready :
    exec (.returnToMarking lk) s = .next (s.withPart ((s.part.longBreak lk).returnToMarking lk)) :=
  congrArg Host.Outcome.next (s.onPart_ready (fun p => (p.longBreak lk).returnToMarking lk) h)

theorem exec_auditTimerExpiry_ready : exec (.auditTimerExpiry lk) s = .next (s.withPart (s.part.auditExpiry lk)) :=
  congrArg Host.Outcome.next (s.onPart_ready (·.auditExpiry lk) h)

theorem exec_reportTransmissionStart_ready (ready : Bool) : exec (.reportTransmissionStart lk ready) s
    = .next (s.withPart (s.part.setLink lk ((s.part.link lk).startSending ready))) :=
  congrArg Host.Outcome.next (s.onPart_ready (·.updLink lk (fun k => k.startSending ready)) h)

theorem exec_reportTransmissionComplete_ready : exec (.reportTransmissionComplete lk) s
    = .next (s.withPart (s.part.setLink lk ((s.part.link lk).finishSending s.part.stamp))) :=
  congrArg Host.Outcome.next (s.onPart_ready (·.finishTransmission lk) h)

end

/-! ### A waiting message where nothing else waits (assumption logs 4 and 6) -/

theorem Part.takeWaiting_none (p : Part) (lk : LinkId) (h : (p.link lk).waiting = none) : p.takeWaiting lk = p := by
  simp only [Part.takeWaiting, h]

/-- Neither tests, nor the LOCKING timeout, nor a message on the other link come before this link's message. -/
theorem Part.nothing_before_waiting (p : Part) (lk : LinkId) (ht : ∀ l, (p.line l).decoder.tests = .made)
    (hl : p.timeBase.lockingDue = false) (ho : (p.link lk.other).waiting = none) :
    p.settleSamples.lockingTimeout.takeWaiting lk.other = p := by
  have hs : p.settleSamples = p := p.forLines_fixed _ (fun l => p.finishTests_made l (ht l))
  have hk : p.lockingTimeout = p := by rw [Part.lockingTimeout, hl, if_neg Bool.false_ne_true]
  rw [hs, hk, p.takeWaiting_none lk.other ho]

/-! ### Receive errors -/

/-- The first body character of a message cut short: none before it came, and none where the length is 0 (R162). -/
theorem firstBodyChar_eq (chars : List Byte) (first : Option Byte)
    (h : (chars.length ≤ 1 ∨ chars.head? = some 0) ∧ first = none
      ∨ ∃ len b more, len ≠ 0 ∧ chars = len :: b :: more ∧ first = some b) : firstBodyChar chars = first := by
  rcases h with ⟨hc, rfl⟩ | ⟨len, b, more, hl, rfl, rfl⟩
  · match chars, hc with
    | [], _ => rfl
    | [_], _ => rfl
    | len :: b :: more, .inr h0 => exact if_pos (Option.some.inj h0)
  · exact if_neg hl

section
variable (p : Part) (lk : LinkId) (e : ErrorInfo)

theorem Part.receiveError_alive (h : (p.link lk).state = .alive) :
    p.receiveError lk e = p.report lk (.reject e.reason e.kind e.first e.length 0 0) := by
  simp only [Part.receiveError, h]

theorem Part.receiveError_suspect (h : (p.link lk).state = .suspect) :
    p.receiveError lk e = p.failLink lk .receiveError := by
  simp only [Part.receiveError, h]

theorem Part.receiveError_failed (h : (p.link lk).state = .failed) : p.receiveError lk e = p := by
  simp only [Part.receiveError, h]

end

/-- A receive error judged on a link just written, by the state written (R162, R171, R172). -/
theorem Part.receiveError_setLink (p : Part) (lk : LinkId) (k : Link) (e : ErrorInfo) :
    (k.state = .alive → (p.setLink lk k).receiveError lk e
      = (p.setLink lk k).report lk (.reject e.reason e.kind e.first e.length 0 0))
    ∧ (k.state = .suspect → (p.setLink lk k).receiveError lk e
      = (p.setLink lk { k with state := .failed, auditTimer := none, queue := [], lost := 0 }).report lk.other
        (.planeStatus lk .failed .suspect .receiveError))
    ∧ (k.state = .failed → (p.setLink lk k).receiveError lk e = p.setLink lk k) := by
  have hk : ((p.setLink lk k).link lk).state = k.state := by rw [Part.link_setLink_self]
  refine ⟨fun h => ?_, fun h => ?_, fun h => ?_⟩
  · exact Part.receiveError_alive _ lk e (hk.trans h)
  · rw [Part.receiveError_suspect _ lk e (hk.trans h), Part.failLink_eq, Part.link_setLink_self, Part.setLink_setLink]
  · exact Part.receiveError_failed _ lk e (hk.trans h)

/-- The outcome of a row that comes to a receive error on a link just written, by the link's state. -/
theorem outcome_of_receiveError (s : State) (lk : LinkId) (k : Link) (e : ErrorInfo) (st : LinkState)
    (o : Host.Outcome State Fault Refusal) (hs : k.state = st)
    (ho : o = .next (s.withPart ((s.part.setLink lk k).receiveError lk e))) :
    (st = .alive → o = .next (s.withPart
      ((s.part.setLink lk k).report lk (.reject e.reason e.kind e.first e.length 0 0))))
    ∧ (st = .suspect → o = .next (s.withPart
      ((s.part.setLink lk { k with state := .failed, auditTimer := none, queue := [], lost := 0 }).report lk.other
        (.planeStatus lk .failed .suspect .receiveError))))
    ∧ (st = .failed → o = .next (s.withPart (s.part.setLink lk k))) := by
  obtain ⟨halive, hsuspect, hfailed⟩ := s.part.receiveError_setLink lk k e
  subst hs ho
  exact ⟨fun h => by rw [halive h], fun h => by rw [hsuspect h], fun h => by rw [hfailed h]⟩

end Sys2Proof.Machine
end

section
/-!
PROOF. Characters and the message assembler (R155, R156, R158, R159): what the receiver makes of the 11 positions sampled,
and what the assembler makes of the character.
-/
namespace Sys2Proof.Machine

/-! ### The positions sampled (R155, R156) -/

/-- The data positions hold the data bits, the least significant first, a 1 at marking (assumption log 34). -/
theorem dataOf_eq (v : Vector WireLevel 10) (data : Byte)
    (h : ∀ i : Fin 8, data.getLsbD i.val = decide (v.get ⟨i.val + 1, by omega⟩ = .marking)) : dataOf v = data := by
  have hsum : ∀ d : Byte, lowChar (bit (d.getLsbD 0) 0 + bit (d.getLsbD 1) 1 + bit (d.getLsbD 2) 2 + bit (d.getLsbD 3) 3
      + bit (d.getLsbD 4) 4 + bit (d.getLsbD 5) 5 + bit (d.getLsbD 6) 6 + bit (d.getLsbD 7) 7) = d := by
    decide +kernel
  have h0 : decide (v.get 1 = .marking) = data.getLsbD 0 := (h 0).symm
  have h1 : decide (v.get 2 = .marking) = data.getLsbD 1 := (h 1).symm
  have h2 : decide (v.get 3 = .marking) = data.getLsbD 2 := (h 2).symm
  have h3 : decide (v.get 4 = .marking) = data.getLsbD 3 := (h 3).symm
  have h4 : decide (v.get 5 = .marking) = data.getLsbD 4 := (h 4).symm
  have h5 : decide (v.get 6 = .marking) = data.getLsbD 5 := (h 5).symm
  have h6 : decide (v.get 7 = .marking) = data.getLsbD 6 := (h 6).symm
  have h7 : decide (v.get 8 = .marking) = data.getLsbD 7 := (h 7).symm
  rw [dataOf, h0, h1, h2, h3, h4, h5, h6, h7, hsum]

theorem markOf_eq_true {v : Vector WireLevel 10} (h : v.get 9 = .marking) : markOf v = true := decide_eq_true h

theorem markOf_eq_false {v : Vector WireLevel 10} (h : v.get 9 = .spacing) : markOf v = false :=
  decide_eq_false (by rw [h]; decide)

section
variable (lk : LinkId) (k : Link) (v : Vector WireLevel 10) (n : Fin 3) (hk : k.receiver = .listening)
include hk

/-- A first position at marking is no start bit (assumption log 3). -/
theorem Link.takeCharacter_no_start (stop : WireLevel) (h0 : v.get 0 = .marking) : k.takeCharacter lk v stop n = k := by
  simp only [Link.takeCharacter, hk, if_pos h0]

/-- Every position at spacing begins a break, measured from the leading edge (R156). -/
theorem Link.takeCharacter_break (h : ∀ i, v.get i = .spacing) :
    k.takeCharacter lk v .spacing n = { k with receiver := .breaking n.val } := by
  have hv : v = Vector.replicate 10 .spacing := Laws.ext_get _ _ fun i => (h i).trans (Laws.get_replicate _ i).symm
  have h0 : ¬ v.get 0 = .marking := by rw [h 0]; decide
  simp only [Link.takeCharacter, hk, if_neg h0, if_pos hv, if_neg (show ¬ WireLevel.spacing = .marking by decide)]

/-- A stop position at spacing, with another at marking, is a missing stop bit (R155). -/
theorem Link.takeCharacter_broken (h0 : v.get 0 = .spacing) (h : ∃ i, v.get i = .marking) :
    k.takeCharacter lk v .spacing n = k.takeBroken := by
  have hv : ¬ v = Vector.replicate 10 .spacing := by
    rintro rfl
    obtain ⟨i, hi⟩ := h
    exact absurd ((Laws.get_replicate _ i).symm.trans hi) (by decide)
  have hs : ¬ v.get 0 = .marking := by rw [h0]; decide
  simp only [Link.takeCharacter, hk, if_neg hs, if_neg hv, if_neg (show ¬ WireLevel.spacing = .marking by decide)]

/-- A stop bit at marking ends a character, which the assembler takes (R155, R158). -/
theorem Link.takeCharacter_stop (h0 : v.get 0 = .spacing) :
    k.takeCharacter lk v .marking n = k.takeWhole lk (dataOf v) (markOf v) := by
  have hs : ¬ v.get 0 = .marking := by rw [h0]; decide
  simp only [Link.takeCharacter, hk, if_neg hs, if_true]

end

/-! ### The table of the assembler (R158) -/

section
variable (lk : LinkId) (k : Link) (data : Byte)

section
variable (h : k.assembler = .wait ∨ k.assembler = .skip)
include h

theorem Link.takeWhole_marked_idle : k.takeWhole lk data true = { k with assembler := .collect data [] 0 } := by
  rcases h with h | h <;> simp only [Link.takeWhole, h]

theorem Link.takeWhole_unmarked_idle : k.takeWhole lk data false = k := by
  rcases h with h | h <;> simp only [Link.takeWhole, h]

theorem Link.takeBroken_idle : k.takeBroken = k := by
  rcases h with h | h <;> simp only [Link.takeBroken, h]

end

section
variable (kind : Byte) (chars : List Byte) (m : Nat) (h : k.assembler = .collect kind chars m)
include h

theorem Link.takeWhole_marked_collect : k.takeWhole lk data true =
    { k with assembler := .collect data [] 0, waiting := some (partialError .framing kind chars) } := by
  simp only [Link.takeWhole, h]

theorem Link.takeWhole_unmarked_collect : k.takeWhole lk data false = k.collect lk kind chars data := by
  simp only [Link.takeWhole, h]

theorem Link.takeBroken_collect :
    k.takeBroken = { k with assembler := .wait, waiting := some (partialError .framing kind chars) } := by
  simp only [Link.takeBroken, h]

end

/-- The check character is the one that follows length and body (R157). -/
theorem messageComplete_append (chars : List Byte) : messageComplete (chars ++ [data]) = true ↔
    chars ≠ [] ∧ chars.length = (chars.headD 0).toNat + 1 := by
  cases chars with
  | nil => simp [messageComplete]
  | cons len more => simp [messageComplete]

section
variable (kind : Byte) (chars : List Byte)

/-- A length above 40 is a LENGTH error as it arrives (R158). -/
theorem Link.collect_too_long (hc : chars = []) (hd : 40 < data.toNat) : k.collect lk kind chars data =
    { k with assembler := .skip, waiting := some (.error ⟨.length, kind, none, data⟩) } :=
  if_pos ⟨hc, hd⟩

theorem Link.collect_check (hc : chars ≠ []) (hl : chars.length = (chars.headD 0).toNat + 1) :
    k.collect lk kind chars data =
      { k with assembler := .wait, waiting := some (judgeMessage lk kind (chars ++ [data])) } := by
  rw [Link.collect, if_neg (fun h => hc h.1), if_pos ((messageComplete_append data chars).2 ⟨hc, hl⟩)]

theorem Link.collect_more
    (h : chars = [] ∧ data.toNat ≤ 40 ∨ chars ≠ [] ∧ chars.length ≠ (chars.headD 0).toNat + 1) :
    k.collect lk kind chars data = { k with assembler := .collect kind (chars ++ [data]) 0 } := by
  rw [Link.collect, if_neg, if_neg]
  · rw [messageComplete_append]
    rintro ⟨hc, hl⟩
    rcases h with ⟨h, -⟩ | ⟨-, h⟩
    · exact hc h
    · exact h hl
  · rintro ⟨hc, hd⟩
    rcases h with ⟨-, h⟩ | ⟨h, -⟩
    · omega
    · exact h hc

end

end

/-- Settles O41: the receiver's four cases, and for a character taken whole the rows of the assembler's table. -/
theorem charactersMoveTheAssembler : Obligations.CharactersMoveTheAssembler := by
  unfold Obligations.CharactersMoveTheAssembler
  intro s lk k v stop n data taken hr hk hl ht hbits
  have hexec := exec_characterTaken_ready s lk hr v stop n
  rw [← ht, ← hk] at hexec
  have moved : ∀ q, k.takeCharacter lk v stop n = q → taken = .next (s.withPart (s.part.setLink lk q)) :=
    fun q hq => hq ▸ hexec
  have still : k.takeCharacter lk v stop n = k → taken = .next s := fun hq => by
    rw [moved k hq, hk, Part.setLink_link]
    rfl
  have broken : v.get 0 = .spacing → stop = .spacing → (∃ i, v.get i = .marking) →
      k.takeCharacter lk v stop n = k.takeBroken :=
    fun h0 hs hm => hs ▸ k.takeCharacter_broken lk v n hl h0 hm
  have whole : ∀ b, v.get 0 = .spacing → stop = .marking → markOf v = b →
      k.takeCharacter lk v stop n = k.takeWhole lk data b :=
    fun b h0 hs hb => by rw [hs, k.takeCharacter_stop lk v n hl h0, dataOf_eq v data hbits, hb]
  refine ⟨fun h0 => still (k.takeCharacter_no_start lk v n hl stop h0),
    fun h hs => moved _ (hs ▸ k.takeCharacter_break lk v n hl h), fun h0 hs ha => ⟨fun h9 => ?_, fun h9 => ?_⟩,
    fun h0 hs hm ha => still ((broken h0 hs hm).trans (k.takeBroken_idle ha)), fun kind chars m first ha hf => ?_⟩
  · exact still ((whole _ h0 hs (markOf_eq_false h9)).trans (k.takeWhole_unmarked_idle lk data ha))
  · exact moved _ ((whole _ h0 hs (markOf_eq_true h9)).trans (k.takeWhole_marked_idle lk data ha))
  · have hp : partialError .framing kind chars = .error ⟨.framing, kind, first, 0⟩ := by
      rw [partialError, firstBodyChar_eq chars first hf]
    refine ⟨fun h0 hs hm => ?_, fun h0 hs h9 => ?_, fun h0 hs h9 => ?_⟩
    · rw [moved _ ((broken h0 hs hm).trans (k.takeBroken_collect kind chars m ha)), hp]
    · rw [moved _ ((whole _ h0 hs (markOf_eq_true h9)).trans (k.takeWhole_marked_collect lk data kind chars m ha)), hp]
    · have hc := (whole _ h0 hs (markOf_eq_false h9)).trans (k.takeWhole_unmarked_collect lk data kind chars m ha)
      exact ⟨fun hn hd => moved _ (hc.trans (k.collect_too_long lk data kind chars hn hd)),
        fun hm => moved _ (hc.trans (k.collect_more lk data kind chars hm)),
        fun hn hd => moved _ (hc.trans (k.collect_check lk data kind chars hn hd))⟩

end Sys2Proof.Machine
end

section
/-!
PROOF. The judgement of a complete message (R157, R160): its sum, its first body character, and the table of lengths of
10.2.
-/
namespace Sys2Proof.Machine

theorem toNat_zero_byte : (0 : Byte).toNat = 0 := rfl

@[simp] theorem toNat_lowChar (n : Nat) : (lowChar n).toNat = n % 256 := BitVec.toNat_ofNat n 8

/-- A message sums to 0 where the values of its characters do, modulo 256 (R157). -/
theorem message_sum_eq_zero_iff (kind check : Byte) (body : List Byte) (total : Nat)
    (ht : total = kind.toNat + body.length + (body.map BitVec.toNat).sum + check.toNat) :
    kind + sumOf (lowChar body.length :: (body ++ [check])) = 0 ↔ total % 256 = 0 := by
  rw [← BitVec.toNat_inj, BitVec.toNat_add, sumOf_toNat]
  simp only [List.map_cons, List.map_append, List.map_nil, List.sum_cons, List.sum_append, List.sum_nil, toNat_lowChar,
    toNat_zero_byte]
  omega

/-- The first body character of a whole message is that of its body, and there is none where the length is 0 (R162). -/
theorem firstBodyChar_message (body : List Byte) (check : Byte) (hl : body.length ≤ 40) :
    firstBodyChar (lowChar body.length :: (body ++ [check])) = body.head? := by
  refine firstBodyChar_eq _ _ ?_
  cases body with
  | nil => exact .inl ⟨.inr rfl, rfl⟩
  | cons b bs =>
    refine .inr ⟨_, b, bs ++ [check], fun h0 => ?_, rfl, rfl⟩
    have hn := congrArg BitVec.toNat h0
    rw [toNat_lowChar, toNat_zero_byte] at hn
    rw [List.length_cons] at hl hn
    omega

/-- The table of 10.2. -/
theorem commandLength_table (kind : Byte) : commandLength kind = (if kind.toNat = 0 ∨ 20 < kind.toNat then none
    else some ([(2, 2), (2, 2), (1, 1), (2, 2), (1, 1), (1, 1), (1, 1), (1, 1), (1, 1), (1, 1), (1, 1), (1, 40), (1, 1)
      , (1, 1), (1, 1), (1, 1), (26, 26), (11, 11), (4, 4), (2, 2)].getD (kind.toNat - 1) (0, 0))) := by
  revert kind
  decide +kernel

/-! ### The order of R160 -/

section
variable (lk : LinkId) (kind : Byte) (chars : List Byte)

theorem judgeMessage_check (h : kind + sumOf chars ≠ 0) :
    judgeMessage lk kind chars = .error ⟨.check, kind, firstBodyChar chars, 0⟩ :=
  if_pos h

section
variable (h : kind + sumOf chars = 0)
include h

theorem judgeMessage_unknown (hk : commandLength kind = none) :
    judgeMessage lk kind chars = .error ⟨.unknown, kind, firstBodyChar chars, 0⟩ := by
  simp only [judgeMessage, h, ne_eq, not_true, if_false, hk]

theorem judgeMessage_length (least most : Nat) (hk : commandLength kind = some (least, most))
    (hl : (chars.getD 0 0).toNat < least ∨ most < (chars.getD 0 0).toNat) :
    judgeMessage lk kind chars = .error ⟨.length, kind, firstBodyChar chars, chars.getD 0 0⟩ := by
  simp only [judgeMessage, h, ne_eq, not_true, if_false, hk, if_pos hl]

/-- A message that passes all three judgements is the command that kind and body spell (R160, 10.2). -/
theorem judgeMessage_command (least most : Nat) (c : Instr) (hk : commandLength kind = some (least, most))
    (hl : least ≤ (chars.getD 0 0).toNat ∧ (chars.getD 0 0).toNat ≤ most)
    (hc : spelledCommand lk kind ((chars.drop 1).take (chars.getD 0 0).toNat) = some c) :
    judgeMessage lk kind chars = .command c := by
  have hn : ¬ ((chars.getD 0 0).toNat < least ∨ most < (chars.getD 0 0).toNat) := by omega
  simp only [judgeMessage, h, ne_eq, not_true, if_false, hk, if_neg hn, hc]

end

end

/-- Settles O42: the three judgements in their order, and the table of lengths. -/
theorem messagesAreJudgedInOrder : Obligations.MessagesAreJudgedInOrder := by
  unfold Obligations.MessagesAreJudgedInOrder
  refine ⟨fun lk kind check body total hl ht => ?_, commandLength_table⟩
  have hsum := message_sum_eq_zero_iff kind check body total ht
  have hfirst := firstBodyChar_message body check hl
  have hlen : (lowChar body.length).toNat = body.length := by
    rw [toNat_lowChar]
    omega
  refine ⟨fun h => ?_, fun h hk => ?_, fun least most h hk hb => ?_⟩
  · rw [judgeMessage_check lk kind _ (fun h0 => h (hsum.1 h0)), hfirst]
  · rw [judgeMessage_unknown lk kind _ (hsum.2 h) (by rw [commandLength_table, if_pos hk]), hfirst]
  · rw [judgeMessage_length lk kind _ (hsum.2 h) least most hk (by rwa [← hlen] at hb), hfirst]
    rfl

end Sys2Proof.Machine
end

section
/-!
PROOF. The characters of a command's message leave that command waiting (R155, R157, R158, R160, 10.2). The message is
taken character by character in COLLECT; its judgement passes; and spelling undoes the layout of the command.
-/
namespace Sys2Proof.Machine

/-! ### Spelling undoes the layout (10.2) -/

@[simp] theorem twoChars_lowChar_highChar (h : Half) : twoChars (lowChar h.toNat) (highChar h.toNat) = h := by
  apply BitVec.eq_of_toNat_eq
  have hb := h.isLt
  have hlow : h.toNat % 2 ^ 8 < 2 ^ 8 := Nat.mod_lt _ (by decide)
  simp only [twoChars, lowChar, highChar, BitVec.toNat_append, BitVec.toNat_ofNat]
  rw [← Nat.shiftLeft_add_eq_or_of_lt hlow, Nat.shiftLeft_eq]
  omega

theorem rawProfileAt_rawProfileChars (i : Byte) (r : RawProfile) :
    rawProfileAt (fun n => (i :: rawProfileChars r).getD n 0) 1 = r := by
  simp [rawProfileAt, rawProfileChars, chars2H, chars2]

theorem entries_toList (i : Byte) (es : Vector Byte 10) (b : Nat → Byte) (hb : b = fun n => (i :: es.toList).getD n 0) :
    #v[b 1, b 2, b 3, b 4, b 5, b 6, b 7, b 8, b 9, b 10] = es := by
  subst hb
  obtain ⟨⟨l⟩, hl⟩ := es
  match l, hl with
  | [_, _, _, _, _, _, _, _, _, _], _ => rfl

/-- The message of every command spells that command. -/
theorem spelledCommand_commandMessage (c : Instr) (lk : LinkId) (kind : Byte) (body : List Byte)
    (h : commandMessage c = some (lk, kind, body)) : spelledCommand lk kind body = some c := by
  cases c <;> cases h
  case audit ch => exact congrArg (fun h => some (Instr.audit lk h)) (twoChars_lowChar_highChar ch)
  case writeProfile i r => exact congrArg (fun r => some (Instr.writeProfile lk i r)) (rawProfileAt_rawProfileChars i r)
  case writeConvention i es => exact congrArg (fun es => some (Instr.writeConvention lk i es)) (entries_toList i es _ rfl)
  case writeGlobals r =>
    exact congrArg (fun h => some (Instr.writeGlobals lk ⟨h, r.runLimit, r.lineCap⟩))
      (twoChars_lowChar_highChar r.auditPeriod)
  all_goals rfl

/-- The body of a well-formed command's message has a length its kind takes (10.2). -/
theorem commandLength_commandMessage (c : Instr) (lk : LinkId) (kind : Byte) (body : List Byte) (hw : c.wellFormed = true)
    (h : commandMessage c = some (lk, kind, body)) :
    ∃ least most, commandLength kind = some (least, most) ∧ least ≤ body.length ∧ body.length ≤ most ∧ most ≤ 40 := by
  cases c <;> cases h
  case inject line xs =>
    have hx : xs.length ≤ 39 := of_decide_eq_true hw
    exact ⟨1, 40, rfl, Nat.succ_le_succ (Nat.zero_le _), Nat.succ_le_succ hx, Nat.le_refl _⟩
  case writeConvention i es =>
    have hl : (i :: es.toList).length = 11 := by simp
    exact ⟨11, 11, rfl, Nat.le_of_eq hl.symm, Nat.le_of_eq hl, by decide⟩
  all_goals exact ⟨_, _, rfl, Nat.le_refl _, Nat.le_refl _, by decide⟩

/-! ### The message is judged (R157, R160) -/

/-- The unmarked characters of a message: length, body and check (R157). -/
def unmarkedChars (kind : Byte) (body : List Byte) : List Byte :=
  lowChar body.length :: (body ++ [-(kind + lowChar body.length + sumOf body)])

theorem data_comp_unmarked : WireChar.data ∘ (fun b => ⟨b, false⟩) = id := rfl

theorem envelope_eq (kind : Byte) (body : List Byte) :
    envelope kind body = ⟨kind, true⟩ :: (unmarkedChars kind body).map (fun b => ⟨b, false⟩) := rfl

/-- The message of a well-formed command is judged to be that command. -/
theorem judgeMessage_commandMessage (c : Instr) (lk : LinkId) (kind : Byte) (body : List Byte) (hw : c.wellFormed = true)
    (h : commandMessage c = some (lk, kind, body)) : judgeMessage lk kind (unmarkedChars kind body) = .command c := by
  obtain ⟨least, most, hk, hl, hm, h40⟩ := commandLength_commandMessage c lk kind body hw h
  have hsum : kind + sumOf (unmarkedChars kind body) = 0 := by
    have he := envelope_sum kind body
    rwa [envelope_eq, List.map_cons, List.map_map, sumOf_cons, data_comp_unmarked, List.map_id] at he
  have hlen : ((unmarkedChars kind body).getD 0 0).toNat = body.length := by
    change (lowChar body.length).toNat = _
    rw [toNat_lowChar]
    omega
  refine judgeMessage_command lk kind _ hsum least most c hk ⟨by omega, by omega⟩ ?_
  rw [hlen]
  change spelledCommand lk kind ((body ++ _).take body.length) = _
  rw [List.take_left]
  exact spelledCommand_commandMessage c lk kind body h

/-! ### The characters taken one after another (R158) -/

theorem execAll_cons {c : Instr} (cs : List Instr) {s t : State} (h : exec c s = .next t) :
    execAll (c :: cs) s = execAll cs t := by
  simp only [execAll, h]

theorem State.onPart_withPart (s : State) (h : s.hold.held = false) (q : Part) (f : Part → Part) :
    (s.withPart q).onPart f = s.withPart (f q) :=
  (s.withPart q).onPart_working f h

/-- A link on which nothing waits leaves a ready state ready. -/
theorem State.ready_setLink (s : State) (h : s.ready) (lk : LinkId) (k : Link) (hw : k.waiting = none) :
    (s.withPart (s.part.setLink lk k)).ready := by
  obtain ⟨hh, ht, hd, ha, hb⟩ := h
  cases lk
  · exact ⟨hh, ht, hd, hw, hb⟩
  · exact ⟨hh, ht, hd, ha, hw⟩

section
variable (s : State) (lk : LinkId) (k : Link) (hr : s.ready) (hl : k.receiver = .listening) (hw : k.waiting = none)
include hr hl hw

/-- A character that comes to a listening link on which nothing waits. -/
theorem exec_character (ch : WireChar) :
    exec (.characterTaken lk ch.positions .marking 0) (s.withPart (s.part.setLink lk k))
      = .next (s.withPart (s.part.setLink lk (k.takeWhole lk ch.data ch.marked))) := by
  rw [exec_characterTaken_ready _ lk (s.ready_setLink hr lk k hw)]
  change Host.Outcome.next (s.withPart ((s.part.setLink lk k).setLink lk
    (((s.part.setLink lk k).link lk).takeCharacter lk ch.positions .marking 0))) = _
  rw [Part.link_setLink_self, Part.setLink_setLink, k.takeCharacter_whole lk ch 0 hl]

/-- The unmarked characters that are left of a message complete it. -/
theorem execAll_unmarked (kind : Byte) (message : List Byte) (hm : message.length = (message.headD 0).toNat + 2)
    (h40 : (message.headD 0).toNat ≤ 40) (rest : List Byte) (hrest : rest ≠ []) (taken : List Byte)
    (ht : taken ++ rest = message) (n : Nat) :
    execAll (charactersOn lk (rest.map (fun b => ⟨b, false⟩)))
        (s.withPart (s.part.setLink lk { k with assembler := .collect kind taken n }))
      = .next (s.withPart (s.part.setLink lk
          { k with assembler := .wait, waiting := some (judgeMessage lk kind message) })) := by
  induction rest generalizing taken n with
  | nil => exact absurd rfl hrest
  | cons b rest ih =>
    have hfirst := exec_character s lk { k with assembler := .collect kind taken n } hr hl hw ⟨b, false⟩
    rw [Link.takeWhole_unmarked_collect lk _ b kind taken n rfl] at hfirst
    refine (execAll_cons _ hfirst).trans ?_
    have hlen : message.length = taken.length + (rest.length + 1) := by rw [← ht, List.length_append, List.length_cons]
    have hhead : message.headD 0 = (taken ++ [b]).headD 0 := by rw [← ht]; cases taken <;> rfl
    cases rest with
    | nil =>
      have hne : taken ≠ [] := by
        rintro rfl
        simp only [List.length_nil] at hlen
        omega
      obtain ⟨a, more, rfl⟩ := List.exists_cons_of_ne_nil hne
      have hcheck : (a :: more).length = ((a :: more).headD 0).toNat + 1 := by
        rw [hhead, List.cons_append] at hm
        simp only [List.length_nil, List.headD_cons] at *
        omega
      rw [Link.collect_check lk _ b kind _ hne hcheck, ht]
      rfl
    | cons b' rest =>
      rw [Link.collect_more lk _ b kind taken]
      · exact ih (List.cons_ne_nil b' rest) (taken ++ [b]) (by rw [List.append_assoc]; exact ht) 0
      · rw [List.length_cons] at hlen
        cases taken with
        | nil => exact .inl ⟨rfl, by rw [hhead] at h40; exact h40⟩
        | cons a more =>
          refine .inr ⟨List.cons_ne_nil a more, fun hc => ?_⟩
          rw [hhead, List.cons_append] at hm
          simp only [List.headD_cons] at hm hc
          omega

/-- The characters of a message leave its judgement waiting, from WAIT and from SKIP (R158). -/
theorem execAll_envelope (kind : Byte) (body : List Byte) (h40 : body.length ≤ 40)
    (ha : k.assembler = .wait ∨ k.assembler = .skip) :
    execAll (charactersOn lk (envelope kind body)) (s.withPart (s.part.setLink lk k))
      = .next (s.withPart (s.part.setLink lk { k with
          assembler := .wait, waiting := some (judgeMessage lk kind (unmarkedChars kind body)) })) := by
  have hfirst := exec_character s lk k hr hl hw ⟨kind, true⟩
  rw [k.takeWhole_marked_idle lk kind ha] at hfirst
  have hlen : ((unmarkedChars kind body).headD 0).toNat = body.length := by
    change (lowChar body.length).toNat = _
    rw [toNat_lowChar]
    omega
  refine (execAll_cons _ hfirst).trans (execAll_unmarked s lk k hr hl hw kind (unmarkedChars kind body) ?_ ?_ _
    (List.cons_ne_nil _ _) [] rfl 0)
  · rw [hlen, unmarkedChars, List.length_cons, List.length_append]
    rfl
  · rw [hlen]
    exact h40

end

/-- A command's row takes its message where that is all that waits (R161, assumption log 6). -/
theorem Part.arrive_waiting (p : Part) (h : p.settled) (lk : LinkId) (k : Link) (hk : k = p.link lk) (a : Assembler)
    (c : Instr) :
    (p.setLink lk { k with assembler := a, waiting := some (.command c) }).arrive lk c
      = p.setLink lk { k with assembler := a } := by
  have hw : k.waiting = none := hk ▸ p.settled_waiting h lk
  have hb := Part.nothing_before_waiting (p.setLink lk { k with assembler := a, waiting := some (.command c) }) lk
    (fun l => by rw [Part.line_setLink]; exact h.1 l) (by rw [Part.setLink_timeBase]; exact h.2.1)
    (by rw [Part.link_setLink_other]; exact p.settled_waiting h lk.other)
  simp only [Part.arrive, hb, Part.link_setLink_self, if_true, Part.dropWaiting, Part.updLink, Part.setLink_setLink,
    ← hw]

/-- Settles O43: the message is judged to be the command, and the command's row then takes just that. -/
theorem charactersSpellTheirCommand : Obligations.CharactersSpellTheirCommand := by
  unfold Obligations.CharactersSpellTheirCommand
  intro s c lk kind body k hr hwf hm hk hl ha
  obtain ⟨_, _, -, -, hmost, h40⟩ := commandLength_commandMessage c lk kind body hwf hm
  have hw : k.waiting = none := hk ▸ s.part.settled_waiting hr.2 lk
  have hrun := execAll_envelope s lk k hr hl hw kind body (hmost.trans h40) ha
  rw [judgeMessage_commandMessage c lk kind body hwf hm, hk, Part.setLink_link, ← hk] at hrun
  refine ⟨_, hrun, rfl, ?_⟩
  rw [exec_command c lk kind body _ hm, s.onPart_withPart hr.1,
    exec_command_ready c lk kind body _ (s.ready_setLink hr lk { k with assembler := .wait } hw) hm,
    s.part.arrive_waiting hr.2 lk k hk]
  rfl

end Sys2Proof.Machine
end

section
/-!
PROOF. Receive errors, breaks and audits (R156, R159, R160, R162, R168 to R176): each row comes to one operation on the
link just written, said here by the link's state.
-/
namespace Sys2Proof.Machine

/-! ### Receive errors (R159, R160, R162) -/

theorem Part.takeWaitingError_error (p : Part) (lk : LinkId) (e : ErrorInfo) (h : (p.link lk).waiting = some (.error e)) :
    p.takeWaitingError lk = (p.setLink lk { p.link lk with waiting := none }).receiveError lk e := by
  simp only [Part.takeWaitingError, h]
  rfl

/-- The gap timer of a link in COLLECT runs out at its 11th tick, outside a break (R159, assumption log 24). -/
theorem Part.gapTimerExpiry_due (p : Part) (lk : LinkId) (kind : Byte) (chars : List Byte) (n : Nat) (hn : 11 ≤ n)
    (ha : (p.link lk).assembler = .collect kind chars n) (hb : ∀ m, (p.link lk).receiver ≠ .breaking m) :
    p.gapTimerExpiry lk = (p.setLink lk { p.link lk with assembler := .wait }).receiveError lk
      ⟨.timeout, kind, firstBodyChar chars, 0⟩ := by
  have hg : (p.link lk).gapExpired = true := by
    cases hr : (p.link lk).receiver with
    | breaking m => exact absurd hr (hb m)
    | listening => simp only [Link.gapExpired, hr, ha, decide_eq_true hn]
    | deaf => simp only [Link.gapExpired, hr, ha, decide_eq_true hn]
  simp only [Part.gapTimerExpiry, hg, ha]
  rfl

/-- Settles O44: both rows judge a receive error on the link as they leave it. -/
theorem receiveErrorsAreJudgedByLinkState : Obligations.ReceiveErrorsAreJudgedByLinkState := by
  unfold Obligations.ReceiveErrorsAreJudgedByLinkState
  intro s lk k judged e c hh ht hl ho hk hcase
  have hexec : judged.state = k.state
      ∧ exec c s = .next (s.withPart ((s.part.setLink lk judged).receiveError lk e)) := by
    rcases hcase with ⟨hw, rfl, rfl⟩ | ⟨kind, chars, n, hw, ha, hn, rfl, hb, rfl, he⟩
    · refine ⟨rfl, (congrArg Host.Outcome.next (s.onPart_withPart hh s.part _)).trans ?_⟩
      rw [s.part.nothing_before_waiting lk ht hl ho, s.part.takeWaitingError_error lk e (hk ▸ hw), hk]
    · subst hk
      have hr : s.ready := by
        cases lk
        · exact ⟨hh, ht, hl, hw, ho⟩
        · exact ⟨hh, ht, hl, ho, hw⟩
      have hfirst : (⟨.timeout, kind, firstBodyChar chars, 0⟩ : ErrorInfo) = e := by
        rcases he with ⟨hc, rfl⟩ | ⟨len, b, more, hne, hc, rfl⟩
        · rw [firstBodyChar_eq chars none (.inl ⟨hc, rfl⟩)]
        · rw [firstBodyChar_eq chars (some b) (.inr ⟨len, b, more, hne, hc, rfl⟩)]
      refine ⟨rfl, ?_⟩
      rw [exec_gapTimerExpiry_ready s lk hr, s.part.gapTimerExpiry_due lk kind chars n hn ha hb, hfirst]
  exact outcome_of_receiveError s lk judged e k.state _ hexec.1 hexec.2

/-! ### Breaks (R156, R174) -/

theorem Part.longBreak_not_due (p : Part) (lk : LinkId) (h : (p.link lk).breakLong = false) : p.longBreak lk = p := by
  rw [Part.longBreak, h, if_neg Bool.false_ne_true]

theorem Link.breakLong_breaking (k : Link) (n : Nat) (h : k.receiver = .breaking n) :
    k.breakLong = decide (20 ≤ n) := by
  simp only [Link.breakLong, h]

theorem Link.breakLong_deaf (k : Link) (h : k.receiver = .deaf) : k.breakLong = false := by
  simp only [Link.breakLong, h]

/-- LINK START carries the challenge of the link as it stands (R175). -/
theorem Part.linkStart_setLink (p : Part) (lk : LinkId) (k : Link) (reason : StartReason) :
    (p.setLink lk k).linkStart lk reason = (p.setLink lk k).report lk
      (.linkStart reason p.timeBase.resetCause k.challenge p.timeBase.state p.scan.state) := by
  cases lk <;> rfl

section
variable (p : Part) (lk : LinkId)

/-- A break restarts the link in any state (R174). -/
theorem Part.restartLink_eq : p.restartLink lk =
    ((p.setLink lk { p.link lk with
        state := .alive, challenge := p.stamp, auditTimer := some p.globals.auditPeriod, queue := [], lost := 0
        assembler := .wait, receiver := .deaf }).report lk
      (.linkStart .restart p.timeBase.resetCause p.stamp p.timeBase.state p.scan.state)).report lk.other
      (.planeStatus lk .alive (p.link lk).state .restart) := by
  rw [Part.restartLink, Part.updLink, Part.linkStart_setLink]
  rfl

/-- A short break that cuts no message returns the assembler to WAIT (R156). -/
theorem Part.shortBreak_idle (n : Nat) (hr : (p.link lk).receiver = .breaking n)
    (ha : ∀ kind chars m, (p.link lk).assembler ≠ .collect kind chars m) :
    p.shortBreak lk = p.setLink lk { p.link lk with receiver := .listening, assembler := .wait } := by
  cases h : (p.link lk).assembler with
  | collect kind chars m => exact absurd h (ha kind chars m)
  | wait =>
    simp only [Part.shortBreak, hr, h]
    rfl
  | skip =>
    simp only [Part.shortBreak, hr, h]
    rfl

/-- A short break that cuts a message is a receive error FRAMING (R156, R158). -/
theorem Part.shortBreak_collect (n m : Nat) (kind : Byte) (chars : List Byte) (hr : (p.link lk).receiver = .breaking n)
    (ha : (p.link lk).assembler = .collect kind chars m) :
    p.shortBreak lk = (p.setLink lk { p.link lk with receiver := .listening, assembler := .wait }).receiveError lk
      ⟨.framing, kind, firstBodyChar chars, 0⟩ := by
  simp only [Part.shortBreak, hr, ha]
  rfl

theorem Part.returnToMarking_deaf (h : (p.link lk).receiver = .deaf) :
    p.returnToMarking lk = p.setLink lk { p.link lk with receiver := .listening, assembler := .wait } := by
  simp only [Part.returnToMarking, h]
  rfl

end

/-- Settles O45: below 20 ticks the break has no restart to take first. -/
theorem breaksEndMessagesAndRestartLinks : Obligations.BreaksEndMessagesAndRestartLinks := by
  unfold Obligations.BreaksEndMessagesAndRestartLinks
  intro s lk k hr hk
  subst hk
  refine ⟨fun n hb hn ended he => ?_, fun n hb hn => ?_, fun hd => ?_⟩
  · have hlong : (s.part.link lk).breakLong = false := by
      rw [Link.breakLong_breaking _ n hb]
      exact decide_eq_false (by omega)
    have hexec := exec_shortBreak_ready s lk hr
    rw [s.part.longBreak_not_due lk hlong] at hexec
    refine ⟨fun ha => ?_, fun kind chars m first ha hf => ?_⟩
    · rw [hexec, s.part.shortBreak_idle lk n hb ha, he]
    · rw [s.part.shortBreak_collect lk n m kind chars hb ha, ← he, firstBodyChar_eq chars first hf] at hexec
      exact outcome_of_receiveError s lk ended ⟨.framing, kind, first, 0⟩ _ _ (by rw [he]) hexec
  · have hlong : (s.part.link lk).breakLong = true := by
      rw [Link.breakLong_breaking _ n hb]
      exact decide_eq_true hn
    rw [exec_longBreak_ready s lk hr, Part.longBreak, if_pos hlong, Part.restartLink_eq]
    rfl
  · rw [exec_returnToMarking_ready s lk hr, s.part.longBreak_not_due lk (Link.breakLong_deaf _ hd),
      s.part.returnToMarking_deaf lk hd]

/-! ### Audits (R168 to R171, R173) -/

section
variable (p : Part) (lk : LinkId) (ch : Half)

/-- AUDIT restores a FAILED link, whatever its challenge (R173). -/
theorem Part.auditCommand_failed (h : (p.link lk).state = .failed) : p.auditCommand lk ch =
    ((p.setLink lk { p.link lk with
        state := .alive, challenge := p.stamp, auditTimer := some p.globals.auditPeriod, queue := [], lost := 0
      }).report lk
      (.linkStart .restored p.timeBase.resetCause p.stamp p.timeBase.state p.scan.state)).report lk.other
      (.planeStatus lk .alive .failed .restored) := by
  simp only [Part.auditCommand, h]
  rw [Part.restoreLink, Part.updLink, Part.linkStart_setLink]
  rfl

/-- AUDIT with the link's challenge (R169). -/
theorem Part.auditCommand_accepted (h : (p.link lk).state ≠ .failed) (hc : ch = (p.link lk).challenge) :
    p.auditCommand lk ch = ((p.setLink lk { p.link lk with
        state := .alive, auditTimer := some p.globals.auditPeriod, challenge := ch + 1 }).auditReturn lk
          (p.link lk).state).report lk (.auditReply (ch + 1) true) := by
  unfold Part.auditCommand
  split
  · next hf => exact absurd hf h
  · rw [if_pos hc]
    rfl
  · rw [if_pos hc]
    rfl

/-- AUDIT with another challenge changes nothing but the answer (R169). -/
theorem Part.auditCommand_refused (h : (p.link lk).state ≠ .failed) (hc : ch ≠ (p.link lk).challenge) :
    p.auditCommand lk ch = p.report lk (.auditReply (p.link lk).challenge false) := by
  unfold Part.auditCommand
  split
  · next hf => exact absurd hf h
  · rw [if_neg hc]
  · rw [if_neg hc]

theorem Part.auditReturn_alive : p.auditReturn lk .alive = p := rfl

theorem Part.auditReturn_suspect : p.auditReturn lk .suspect =
    (p.report lk (.planeStatus lk .alive .suspect .audit)).report lk.other (.planeStatus lk .alive .suspect .audit) := rfl

section
variable (ht : (p.link lk).auditTimer = some 0)
include ht

theorem Part.auditExpiry_alive (h : (p.link lk).state = .alive) : p.auditExpiry lk =
    ((p.setLink lk { p.link lk with state := .suspect, auditTimer := some p.globals.auditPeriod }).report lk
      (.planeStatus lk .suspect .alive .auditExpiry)).report lk.other (.planeStatus lk .suspect .alive .auditExpiry) := by
  simp only [Part.auditExpiry, Link.auditExpired, ht, decide_true, if_true, h]
  rfl

theorem Part.auditExpiry_suspect (h : (p.link lk).state = .suspect) : p.auditExpiry lk = p.failLink lk .auditExpiry := by
  simp only [Part.auditExpiry, Link.auditExpired, ht, decide_true, if_true, h]

end

end

/-- Settles O46. -/
theorem auditsAndTheirTimer : Obligations.AuditsAndTheirTimer := by
  unfold Obligations.AuditsAndTheirTimer
  intro s lk ch k period hr hk hp
  subst hk hp
  have hexec := exec_command_ready (.audit lk ch) lk _ _ s hr rfl
  change _ = Host.Outcome.next (s.withPart (s.part.auditCommand lk ch)) at hexec
  have hexpiry := exec_auditTimerExpiry_ready s lk hr
  refine ⟨fun hs hc => ?_, fun hs hc => ?_, fun hs hc => ?_, fun hs => ?_, fun hs ht => ?_, fun hs ht => ?_⟩
  · rw [hexec, s.part.auditCommand_accepted lk ch (by rw [hs]; decide) hc, hs, Part.auditReturn_alive, ← hs]
  · rw [hexec, s.part.auditCommand_accepted lk ch (by rw [hs]; decide) hc, hs, Part.auditReturn_suspect]
  · rw [hexec, s.part.auditCommand_refused lk ch hs hc]
  · rw [hexec, s.part.auditCommand_failed lk ch hs]
    rfl
  · rw [hexpiry, s.part.auditExpiry_alive lk ht hs]
  · rw [hexpiry, s.part.auditExpiry_suspect lk ht hs, Part.failLink_eq]

end Sys2Proof.Machine
end

section
/-!
PROOF. Transmissions and the layouts of the reports (R155, R157, R165 to R167, 10.3 to 10.5): the message on the wire, the
transmitter's two rows, and the values of the characters of every report.
-/
namespace Sys2Proof.Machine

/-! ### The message on the wire (R155, R157) -/

/-- The 11 levels of every character: start bit, data with the least significant bit first, mark flag, stop bit (R155). -/
theorem Report.levels_eq (r : Report) : r.levels = r.wire.flatMap (fun ch => .spacing ::
    ((List.range 8).map (fun i => if ch.data.getLsbD i then .marking else .spacing)
      ++ [if ch.marked then .marking else .spacing, .marking])) := rfl

/-- Kind, length, body, and the check character last (R157). -/
theorem envelope_eq_concat (kind : Byte) (body : List Byte) : envelope kind body =
    (⟨kind, true⟩ :: (lowChar body.length :: body).map (fun b => ⟨b, false⟩))
      ++ [⟨-(kind + lowChar body.length + sumOf body), false⟩] := by
  rw [envelope_eq, unmarkedChars, ← List.cons_append, List.map_append]
  rfl

theorem envelope_data (kind : Byte) (body : List Byte) : (envelope kind body).map WireChar.data =
    [kind, lowChar body.length] ++ body ++ [((envelope kind body).getLastD ⟨0, false⟩).data] := by
  rw [envelope_eq_concat, List.getLastD_concat, List.map_append, List.map_cons, List.map_map,
    data_comp_unmarked, List.map_id]
  rfl

/-- The kind alone is marked (R157). -/
theorem envelope_marked (kind : Byte) (body : List Byte) :
    (envelope kind body).map WireChar.marked = true :: List.replicate ((envelope kind body).length - 1) false := by
  simp [envelope_eq, Function.comp_def]

/-- The values of a message sum to 0 modulo 256 (R157). -/
theorem envelope_sum_values (kind : Byte) (body : List Byte) :
    ((envelope kind body).map (fun ch => ch.data.toNat)).sum % 256 = 0 := by
  have h := sumOf_toNat ((envelope kind body).map WireChar.data)
  rw [envelope_sum, List.map_map] at h
  exact h.symm

/-! ### The transmitter (R165 to R167) -/

section
variable (k : Link)

theorem Link.startSending_head (r : Report) (rest : List Report) (hs : k.sending = none) (hq : k.queue = r :: rest) :
    k.startSending true = { k with queue := rest, sending := some r.levels } := by
  simp only [Link.startSending, hs, hq]

theorem Link.startSending_not (ready : Bool) (h : k.sending ≠ none ∨ k.queue = [] ∨ ready = false) :
    k.startSending ready = k := by
  rcases k.startSending_cases ready with ⟨r, rest, hs, hq, hr, -⟩ | e
  · rcases h with h | h | h
    · exact absurd hs h
    · exact absurd (h.symm.trans hq) (by simp)
    · exact absurd (h.symm.trans hr) (by decide)
  · exact e

section
variable (stamp : Half) (hs : k.sending ≠ none)
include hs

theorem Link.finishSending_lost (hl : 0 < k.lost) (hq : k.queue.length < 128) : k.finishSending stamp =
    { k with sending := none, queue := k.queue ++ [⟨stamp, .lost k.lost⟩], lost := 0 } := by
  obtain ⟨levels, hl'⟩ := Option.ne_none_iff_exists'.1 hs
  simp only [Link.finishSending, hl', if_pos (And.intro hl hq)]

theorem Link.finishSending_whole (h : k.lost = 0 ∨ 128 ≤ k.queue.length) :
    k.finishSending stamp = { k with sending := none } := by
  obtain ⟨levels, hl⟩ := Option.ne_none_iff_exists'.1 hs
  have hn : ¬ (0 < k.lost ∧ k.queue.length < 128) := by omega
  simp only [Link.finishSending, hl, if_neg hn]

end

end

/-! ### The values of characters (R190, 10.4, 10.5) -/

theorem fin_val_lt_256 {n : Nat} (i : Fin n) (h : n ≤ 256) : i.val < 256 := Nat.lt_of_lt_of_le i.isLt h

theorem toNat_lowChar_fin {n : Nat} (i : Fin n) (h : n ≤ 256) : (lowChar i.val).toNat = i.val := by
  rw [toNat_lowChar]
  omega

@[simp] theorem chars2_values (n : Nat) : (chars2 n).map BitVec.toNat = [n % 256, n / 256 % 256] := by
  simp [chars2, highChar, toNat_lowChar]

@[simp] theorem chars2H_values (h : Half) : (chars2H h).map BitVec.toNat = [h.toNat % 256, h.toNat / 256 % 256] :=
  chars2_values h.toNat

@[simp] theorem symbolCode_value (x : Symbol) : (symbolCode x).toNat = x.val := toNat_lowChar_fin x (by decide)

theorem entryCode_value (e : Option Symbol) : (entryCode e).toNat = e.elim 255 (fun x => x.val) := by
  cases e with
  | none => rfl
  | some x => exact symbolCode_value x

theorem Profile.chars_values (r : Profile) : r.chars.map BitVec.toNat =
    (chars2 r.pNom).map BitVec.toNat ++ [r.nominal % 256] ++ (chars2 r.seizeTime).map BitVec.toNat
      ++ (chars2 r.flashMin).map BitVec.toNat ++ (chars2 r.clearTime).map BitVec.toNat
      ++ [r.firstDigitTime % 256, r.partialTime % 256, r.settleTime % 256, r.flapLimit % 256, r.convention.val
        , r.seizeGate.code.toNat]
      ++ (chars2 r.tOn).map BitVec.toNat ++ (chars2 r.tOff).map BitVec.toNat ++ (chars2 r.commit).map BitVec.toNat
      ++ (chars2 r.aL).map BitVec.toNat ++ (chars2 r.aH).map BitVec.toNat := by
  simp only [Profile.chars, List.map_append, List.map_cons, List.map_nil, toNat_lowChar,
    toNat_lowChar_fin r.convention (by decide)]

theorem conventionChars_values (r : Convention) :
    (conventionChars r).map BitVec.toNat = r.toList.map (fun e => e.elim 255 (fun x => x.val)) := by
  rw [conventionChars, List.map_map]
  exact List.map_congr_left (fun e _ => entryCode_value e)

theorem Globals.chars_values (g : Globals) :
    g.chars.map BitVec.toNat = (chars2 g.auditPeriod).map BitVec.toNat ++ [g.runLimit % 256, g.lineCap % 256] := by
  simp only [Globals.chars, List.map_append, List.map_cons, List.map_nil, toNat_lowChar]

/-- Settles O49: the head report goes out as its message, and each layout is read off character by character. -/
theorem transmissionsTakeTheHead : Obligations.TransmissionsTakeTheHead := by
  unfold Obligations.TransmissionsTakeTheHead
  refine ⟨fun s lk k hr hk => ?transmitter, fun two rec entries shared lays htwo hrec hent hsh hlays => ?layouts,
    ?codes⟩
  case transmitter =>
    subst hk
    have hstart := exec_reportTransmissionStart_ready s lk hr
    have hdone := exec_reportTransmissionComplete_ready s lk hr
    refine ⟨fun r rest hs hq => ⟨r.wire, ?_, envelope_data _ _, envelope_sum_values _ _, envelope_marked _ _⟩,
      fun ready h => ?_, fun hs h => ?_, fun hs hl hq => ?_⟩
    · rw [hstart, Link.startSending_head _ r rest hs hq, Report.levels_eq]
    · rw [hstart, Link.startSending_not _ ready h, Part.setLink_link]
      rfl
    · rw [hdone, Link.finishSending_whole _ _ hs h]
    · rw [hdone, Link.finishSending_lost _ _ hs hl hq]
      rfl
  case codes => exact ⟨rfl, rfl, rfl, rfl, rfl, rfl, rfl, rfl, rfl, rfl, rfl, rfl, rfl, rfl, rfl, rfl, rfl, rfl⟩
  case layouts =>
    obtain rfl : two = fun n => (chars2 n).map BitVec.toNat := funext fun n => (htwo n).trans (chars2_values n).symm
    obtain rfl : rec = fun r => r.chars.map BitVec.toNat := funext fun r => (hrec r).trans r.chars_values.symm
    obtain rfl : entries = fun r => (conventionChars r).map BitVec.toNat := funext fun r => by
      rw [hent, conventionChars_values]
      exact List.map_congr_left (fun e _ => by cases e <;> rfl)
    obtain rfl : shared = fun g => g.chars.map BitVec.toNat := funext fun g => (hsh g).trans g.chars_values.symm
    have lay : ∀ b kind cs, b.kind.toNat = kind → b.chars.map BitVec.toNat = cs → lays b kind cs :=
      fun b kind cs hk hc => (hlays b kind cs).2 ⟨hk, hc⟩
    refine ⟨fun why cause ch tb sc => lay _ _ _ rfl ?_, fun ch ok => lay _ _ _ rfl ?auditReply,
      fun kind index detail => lay _ _ _ rfl ?ack, fun why kind first len free room => lay _ _ _ rfl ?reject,
      fun l new old g why lk n => lay _ _ _ rfl ?_, fun l d st => lay _ _ _ rfl ?_,
      fun l y origin n mean conv i lk => lay _ _ _ rfl ?digit, fun l why n conv => lay _ _ _ rfl ?_,
      fun l why y i len free => lay _ _ _ rfl ?_, fun l k m c => lay _ _ _ rfl ?_,
      fun l old new lc lo n => lay _ _ _ rfl ?_, fun l pol d v => lay _ _ _ rfl ?_,
      fun i r => lay _ _ _ rfl ?_, fun i r => lay _ _ _ rfl ?_, fun g => lay _ _ _ rfl ?_,
      fun lk new old why => lay _ _ _ rfl ?_, fun new old n m => lay _ _ _ rfl ?_, fun st => lay _ _ _ rfl ?_,
      fun i r lk => lay _ _ _ rfl ?_, fun i r lk => lay _ _ _ rfl ?_, fun g lk => lay _ _ _ rfl ?_,
      fun l old new lk => lay _ _ _ rfl ?_, fun n => lay _ _ _ rfl ?_⟩
    case auditReply => cases ok <;> simp [ReportBody.chars]
    case ack => cases index <;> simp [ReportBody.chars]
    case reject => cases first <;> simp [ReportBody.chars]
    case digit => cases conv <;> simp [ReportBody.chars, fin_val_lt_256]
    all_goals simp [ReportBody.chars, Settings.chars, fin_val_lt_256]

end Sys2Proof.Machine
end

section
/-!
PROOF. The queue of rows (assumption log 1), the commands of a FAILED link (R172), and the queues of reports (R46, R163 to
R165).
-/
namespace Sys2Proof.Machine

/-! ### The queue of rows -/

@[simp] theorem State.beginHold_pending (s : State) (cause : ResetCause) (h : Hold) :
    (s.beginHold cause h).pending = s.pending := rfl

@[simp] theorem State.takeHighwayFrame_pending (s : State) (slots : List Half) :
    (s.takeHighwayFrame slots).pending = s.pending := rfl

/-- Every row answers a next state, and leaves the queue as it is. -/
theorem exec_next_pending (c : Instr) (s : State) : ∃ t, exec c s = .next t ∧ t.pending = s.pending := by
  cases c
  case highwayFrame slots =>
    refine ⟨_, rfl, ?_⟩
    split
    · exact s.onPart_pending _
    · split
      · rfl
      · exact s.takeHighwayFrame_pending _
  case partResetEnd a b =>
    refine ⟨_, rfl, ?_⟩
    split
    · rfl
    · exact s.onPart_pending _
  case resetInput => exact ⟨_, rfl, s.beginHold_pending _ _⟩
  case supplyLow => exact ⟨_, rfl, s.beginHold_pending _ _⟩
  case powerOn => exact ⟨_, rfl, rfl⟩
  all_goals exact ⟨_, rfl, s.onPart_pending _⟩

/-- Settles O1. -/
theorem stepTakesTheFrontCommand : Obligations.StepTakesTheFrontCommand := by
  unfold Obligations.StepTakesTheFrontCommand
  exact ⟨fun _ _ _ => rfl, fun s h => by simp only [step, h], exec_next_pending⟩

/-! ### Commands on a FAILED link (R172) -/

/-- Every command but AUDIT asks first whether its link is FAILED. -/
theorem Part.takeCommand_failed (p : Part) (c : Instr) (lk : LinkId) (kind : Byte) (body : List Byte)
    (hm : commandMessage c = some (lk, kind, body)) (hk : kind ≠ 0x01) (hf : (p.link lk).state = .failed) :
    p.takeCommand c = p := by
  have hon : ∀ f, p.onLink lk f = p := fun f => p.onLink_failed lk f hf
  cases c <;> cases hm
  case audit ch => exact absurd rfl hk
  all_goals simp only [Part.takeCommand, Part.enableCommand, Part.disableCommand, Part.setProfileCommand,
    Part.openGateCommand, Part.shutGateCommand, Part.converseCommand, Part.resumeCommand, Part.parkCommand,
    Part.restoreCommand, Part.withdrawCommand, Part.injectCommand, Part.relearnCommand, Part.traceOnCommand,
    Part.traceOffCommand, Part.queryLineCommand, Part.writeProfileCommand, Part.writeConventionCommand,
    Part.writeGlobalsCommand, Part.readSettingsCommand, Part.lineCommand, Part.lineProfileCommand, hon]

/-- Settles O47. -/
theorem failedLinksCommandsAreIgnored : Obligations.FailedLinksCommandsAreIgnored := by
  unfold Obligations.FailedLinksCommandsAreIgnored
  intro s c lk kind body hr hm hk hf
  rw [exec_command_ready c lk kind body s hr hm, s.part.takeCommand_failed c lk kind body hm hk hf]
  rfl

/-! ### Queues of reports (R46, R163 to R165) -/

section
variable (k : Link) (r : Report)

theorem Link.push_failed (h : k.state = .failed) : k.push r = k := by
  simp only [Link.push, h]

section
variable (h : k.state ≠ .failed)
include h

theorem Link.push_room (hq : k.queue.length < 128) : k.push r = { k with queue := k.queue ++ [r] } := by
  rcases k.push_cases r with ⟨hf, -⟩ | ⟨-, -, e⟩ | ⟨-, hn, -⟩
  · exact absurd hf h
  · exact e
  · omega

theorem Link.push_full (hq : 128 ≤ k.queue.length) :
    k.push r = { k with lost := if k.lost < 65535 then k.lost + 1 else 65535 } := by
  have hmin : min 65535 (k.lost + 1) = if k.lost < 65535 then k.lost + 1 else 65535 := by
    split <;> omega
  rcases k.push_cases r with ⟨hf, -⟩ | ⟨-, hn, -⟩ | ⟨-, -, e⟩
  · exact absurd hf h
  · omega
  · rw [e, hmin]

end

end

/-- A report for a link is a push on that link with the present stamp (R163). -/
theorem Part.report_eq (p : Part) (lk : LinkId) (body : ReportBody) :
    p.report lk body = p.setLink lk ((p.link lk).push ⟨stampOf p.timeBase.lineTime, body⟩) := rfl

/-- Settles O48. -/
theorem reportQueuesHold128 : Obligations.ReportQueuesHold128 := by
  unfold Obligations.ReportQueuesHold128
  intro p body
  refine ⟨fun lk k hk => ?_, rfl, fun l polarity duration v hb => ⟨fun ht hs => ?_, fun h => ?_⟩⟩
  · subst hk
    refine ⟨fun hf => ?_, fun hs hq => ?_, fun hs hq => ?_⟩
    · rw [Part.report_eq, Link.push_failed _ _ hf, Part.setLink_link]
    · rw [Part.report_eq, Link.push_room _ _ hs hq]
    · rw [Part.report_eq, Link.push_full _ _ hs hq]
  · rw [hb, Part.traceReport, if_pos ⟨Option.isSome_iff_ne_none.2 ht, hs⟩]
  · rw [Part.traceReport, if_neg]
    rintro ⟨ht, hs⟩
    rcases h with h | ⟨ha, hc⟩
    · exact Option.isSome_iff_ne_none.1 ht h
    · exact hs.elim ha hc

end Sys2Proof.Machine
end

section
/-!
PROOF. The part at the end of a part reset (R189): what it is, and the predicates that it meets.
-/
set_option Elab.async false

namespace Sys2Proof.Machine

/-! ### The records right after a part reset -/

section
variable (cause : ResetCause) (a b : WireLevel)

@[simp] theorem Part.line_atReset (l : LineId) : (Part.atReset cause a b).line l = Line.atReset :=
  Laws.get_replicate _ l
@[simp] theorem Part.sender_atReset (k : SenderId) : (Part.atReset cause a b).sender k = Sender.freed :=
  Laws.get_replicate _ k
@[simp] theorem Part.profile_atReset (i : ProfileId) : (Part.atReset cause a b).profile i = Profile.default :=
  Laws.get_replicate _ i

/-- No tests, no timeout and no message wait after a part reset. -/
theorem Part.atReset_settled : (Part.atReset cause a b).settled :=
  ⟨fun l => by rw [Part.line_atReset]; rfl, rfl, rfl, rfl⟩

/-- A link after a part reset has its audit timer at its full length, no message, and no break (R156, R168). -/
theorem Link.atReset_current : (Link.atReset cause a).current := by
  cases a <;> exact ⟨rfl, rfl, rfl⟩

theorem Part.atReset_current : (Part.atReset cause a b).current := by
  refine ⟨rfl, fun l => ?_, Link.atReset_current cause a, Link.atReset_current cause b⟩
  rw [Part.line_atReset]
  exact (Option.some_ne_none 0).symm

theorem Part.atReset_phasesCurrent : (Part.atReset cause a b).phasesCurrent := fun k => by
  rw [Part.sender_atReset]
  exact ⟨rfl, rfl⟩

/-- The period estimate at reset and the default nominal period are in range (R20, R136). -/
theorem Part.atReset_periodsKept : (Part.atReset cause a b).periodsKept := by
  refine ⟨fun l => ?_, fun i => ?_⟩
  · rw [Part.line_atReset]
    decide
  · rw [Part.profile_atReset]
    decide

/-- The default records are in range (R136, R139). -/
theorem Part.atReset_settingsKept : (Part.atReset cause a b).settingsKept := by
  refine ⟨fun i => ?_, ?_⟩
  · rw [Part.profile_atReset]
    decide
  · exact (by decide : Globals.default.inRange)

/-- After a part reset no line holds anything, and no line waits for a sender (R48, R93, R96). -/
theorem Part.atReset_supervisionKept : (Part.atReset cause a b).supervisionKept := by
  refine ⟨fun l _ => ?_, fun l hl => absurd hl List.not_mem_nil, List.nodup_nil, fun l ht => ?_⟩
  · rw [Part.line_atReset]
    exact ⟨rfl, rfl, List.not_mem_nil⟩
  · rw [Part.line_atReset] at ht
    exact absurd ht (Option.some_ne_none _).symm

/-- After a part reset every sender is FREE and no line names one (R93, R94). -/
theorem Part.atReset_sendersKept : (Part.atReset cause a b).sendersKept := by
  simp only [Part.sendersKept, Part.line_atReset, Part.sender_atReset]
  exact ⟨fun l k => iff_of_false (Option.some_ne_none k).symm (Option.some_ne_none l).symm, fun _ => iff_of_true rfl rfl,
    fun _ _ => trivial, fun _ _ => rfl⟩

end

/-- Settles O60: `State.reset` is the machine at the end of a part reset. -/
theorem resetMeetsTheInvariants : Obligations.ResetMeetsTheInvariants := by
  unfold Obligations.ResetMeetsTheInvariants
  have hpool : State.reset.part.poolKept := (Part.accounted_iff _).1 (Part.accounted_atReset _ _ _)
  exact ⟨⟨rfl, Part.atReset_settled _ _ _⟩, Part.atReset_current _ _ _, Part.atReset_phasesCurrent _ _ _,
    Part.atReset_levelsKept _ _ _, Part.atReset_periodsKept _ _ _, Part.atReset_settingsKept _ _ _, hpool,
    ⟨Link.atReset_kept _ _, Link.atReset_kept _ _⟩, Part.atReset_supervisionKept _ _ _, Part.atReset_sendersKept _ _ _⟩

/-! ### The end of a part reset -/

theorem exec_partResetEnd_held (s : State) (a b : WireLevel) (hh : s.hold.held = true) :
    exec (.partResetEnd a b) s = .next { s with
      hold := ⟨false, false⟩, part := Part.atReset s.part.timeBase.resetCause a b } := by
  change Host.Outcome.next (if s.hold.held then _ else _) = _
  rw [if_pos hh]

/-- The part-reset conventions: n modulo 10, n - 1, 10 - n and n modulo 10 for n pulses (R138). -/
theorem Convention.defaults_eq : Convention.defaults =
    #v[ Vector.ofFn (fun n => some ⟨(n.val + 1) % 10, by omega⟩), Vector.ofFn (fun n => some ⟨n.val, by omega⟩)
      , Vector.ofFn (fun n => some ⟨9 - n.val, by omega⟩), Vector.ofFn (fun n => some ⟨(n.val + 1) % 10, by omega⟩) ] := by
  decide

/-- Settles O4. -/
theorem partResetEndSetsEveryBlock : Obligations.PartResetEndSetsEveryBlock := by
  unfold Obligations.PartResetEndSetsEveryBlock
  intro s a b cause hh hcause k hk
  have hlink : ∀ w, k w = Link.atReset cause w := fun w => (hk w).trans (by cases w <;> rfl)
  rw [exec_partResetEnd_held s a b hh, ← Convention.defaults_eq, hlink a, hlink b, hcause]
  rfl

end Sys2Proof.Machine
end

section
/-!
SUPPORT. What the consequences of a row leave waiting (assumption logs 4 and 6): no operation but the samples of a frame, a
character and a tick makes a part wait for more. Each is a row of writes of a line, of a link, or of what nothing waits on.
-/
set_option Elab.async false

namespace Sys2Proof.Machine

/-- `p` waits for no more than `was`: the tests of a line's latest sample stand as they stood or are made; the waiting
messages, and the time base but for its review, stand as they stood. -/
structure Part.asQuietAs (p was : Part) : Prop where
  tests : ∀ l, (p.line l).decoder.tests = .made ∨ (p.line l).decoder.tests = (was.line l).decoder.tests
  timeBase : p.timeBase = { was.timeBase with reviewDue := p.timeBase.reviewDue }
  waiting : ∀ lk, (p.link lk).waiting = (was.link lk).waiting

theorem Part.asQuietAs_refl (p : Part) : p.asQuietAs p := ⟨fun _ => .inr rfl, rfl, fun _ => rfl⟩

theorem Part.asQuietAs_trans {p q r : Part} (h : r.asQuietAs q) (k : q.asQuietAs p) : r.asQuietAs p := by
  refine ⟨fun l => ?_, ?_, fun lk => (h.waiting lk).trans (k.waiting lk)⟩
  · rcases h.tests l with e | e
    · exact .inl e
    · rw [e]
      exact k.tests l
  · have ht := h.timeBase
    rwa [k.timeBase] at ht

section
variable {p was : Part} (h : p.asQuietAs was)
include h

/-! ### What stands as it stood -/

theorem Part.asQuietAs.made (l : LineId) (hl : (was.line l).decoder.tests = .made) : (p.line l).decoder.tests = .made :=
  (h.tests l).elim id (fun e => e.trans hl)

theorem Part.asQuietAs.lockingDue : p.timeBase.lockingDue = was.timeBase.lockingDue := by rw [h.timeBase]

theorem Part.asQuietAs.watchdog : p.timeBase.watchdog = was.timeBase.watchdog := by rw [h.timeBase]

/-! ### One write -/

theorem Part.asQuietAs.setLine (l : LineId) (x : Line)
    (hx : x.decoder.tests = .made ∨ x.decoder.tests = (p.line l).decoder.tests := by exact .inr rfl) :
    (p.setLine l x).asQuietAs was := by
  refine ⟨fun m => ?_, h.timeBase, fun lk => ?_⟩
  · by_cases e : m = l
    · rw [e, Part.line_setLine_self]
      exact hx.elim .inl (fun hx => hx ▸ h.tests l)
    · rw [Part.line_setLine_ne _ _ _ _ e]
      exact h.tests m
  · rw [Part.link_setLine]
    exact h.waiting lk

theorem Part.asQuietAs.updLine (l : LineId) (f : Line → Line)
    (hf : (f (p.line l)).decoder.tests = .made ∨ (f (p.line l)).decoder.tests = (p.line l).decoder.tests := by
      exact .inr rfl) : (p.updLine l f).asQuietAs was := h.setLine l _ hf

theorem Part.asQuietAs.updLink (lk : LinkId) (f : Link → Link)
    (hf : (f (p.link lk)).waiting = (p.link lk).waiting := by exact rfl) : (p.updLink lk f).asQuietAs was := by
  refine ⟨fun l => ?_, ?_, fun k => ?_⟩
  · rw [Part.line_updLink]
    exact h.tests l
  · rw [Part.updLink_timeBase]
    exact h.timeBase
  · rw [← h.waiting k]
    cases lk <;> cases k
    · exact hf
    · rfl
    · rfl
    · exact hf

/-- What writes neither a line, a link nor the time base leaves all waiting. -/
theorem Part.asQuietAs.beside {q : Part} (hl : q.lines = p.lines := by exact rfl)
    (ht : q.timeBase = p.timeBase := by exact rfl) (hk : q.link = p.link := by exact rfl) : q.asQuietAs was := by
  refine ⟨fun l => ?_, ?_, fun lk => ?_⟩
  · rw [show q.line l = p.line l by simp only [Part.line, hl]]
    exact h.tests l
  · rw [ht]
    exact h.timeBase
  · rw [hk]
    exact h.waiting lk

theorem Part.asQuietAs.setSender (k : SenderId) (x : Sender) : (p.setSender k x).asQuietAs was := h.beside
theorem Part.asQuietAs.setTraceSlot (i : SlotId) (o : Option LineId) : (p.setTraceSlot i o).asQuietAs was := h.beside

/-! ### Reports -/

theorem Part.asQuietAs.report (lk : LinkId) (b : ReportBody) : (p.report lk b).asQuietAs was :=
  h.updLink lk _ (Link.push_waiting _ _)
theorem Part.asQuietAs.reportBoth (b : ReportBody) : (p.reportBoth b).asQuietAs was := (h.report .a b).report .b b

theorem Part.asQuietAs.traceReport (l : LineId) (a : Loop) (n : Nat) (v : Verdict) :
    (p.traceReport l a n v).asQuietAs was := by
  unfold Part.traceReport
  split
  · exact h.reportBoth _
  · exact h

/-! ### The store and the pool (chapters 04 and 05) -/

theorem Part.asQuietAs.grantOnce : p.grantOnce.asQuietAs was := by
  have hg : ∀ ls l k, (({ p with grantQueue := ls } : Part).grant l k).asQuietAs was := by
    intro ls l k
    have hq : ({ p with grantQueue := ls } : Part).asQuietAs was := h.beside
    unfold Part.grant
    split
    · exact hq
    · exact (hq.setLine l _).setSender k _
  rcases p.grantOnce_cases with ⟨l, rest, k, -, -, -, e⟩ | e <;> rw [e]
  · exact hg rest l k
  · exact h

theorem Part.asQuietAs.grantTest : p.grantTest.asQuietAs was :=
  Part.grantTest_keeps (·.asQuietAs was) (fun _ hq => hq.grantOnce) p h

theorem Part.asQuietAs.judge (l : LineId) : (p.judge l).asQuietAs was :=
  Part.judge_keeps (·.asQuietAs was) (fun _ hq => hq.grantOnce) l (fun _ hq _ => hq.beside) p h

/-- A line's queue and the free count written together. -/
theorem Part.asQuietAs.setQueue (l : LineId) (cs : List Cell) (n : Nat) :
    ({ p.setLine l { p.line l with queue := cs } with free := n } : Part).asQuietAs was :=
  (h.setLine l { p.line l with queue := cs }).beside

theorem Part.asQuietAs.commit (l : LineId) (k : SenderId) (m : Manner) : (p.commit l k m).asQuietAs was := by
  unfold Part.commit
  split
  · exact h
  · exact (h.setQueue l _ _).reportBoth _

theorem Part.asQuietAs.freeSender (l : LineId) (k : SenderId) : (p.freeSender l k).asQuietAs was :=
  (h.setLine l _).setSender k _

theorem Part.asQuietAs.abortOnly (l : LineId) : (p.abortOnly l).asQuietAs was := by
  have hr : (p.restoreHead l).asQuietAs was := by
    unfold Part.restoreHead
    split
    · exact h
    · exact h.setLine l _
  cases hk : (p.line l).sender with
  | none => simpa only [Part.abortOnly, hk] using h
  | some k =>
    rcases p.abortOnly_cases l k hk with ⟨-, -, e⟩ | ⟨-, -, e⟩ | ⟨-, e⟩ <;> rw [e]
    · exact (h.commit l k _).freeSender l k
    · exact hr.freeSender l k
    · exact h.freeSender l k

theorem Part.asQuietAs.giveUpSender (l : LineId) : (p.giveUpSender l).asQuietAs was := by
  unfold Part.giveUpSender Part.abort
  split
  · exact h.beside
  · exact Part.asQuietAs.beside (h.abortOnly l).grantTest

theorem Part.asQuietAs.onPhaseEnd (k : SenderId) : (p.onPhaseEnd k).asQuietAs was := by
  unfold Part.onPhaseEnd
  split
  · exact (h.commit _ k _).setSender k _
  · exact h

theorem Part.asQuietAs.toneOffEnd (k : SenderId) : (p.toneOffEnd k).asQuietAs was := by
  unfold Part.toneOffEnd Part.continueBurst
  repeat' split
  · exact h
  · exact (h.setLine _ _).setSender k _
  · exact ((h.freeSender _ k).judge _).grantTest
  · exact h

theorem Part.asQuietAs.offerDigit (l : LineId) (x : Symbol) (n : Nat) (mean : Option Nat) (c : ConventionId) :
    (p.offerDigit l x n mean c).asQuietAs was := by
  unfold Part.offerDigit
  dsimp only
  split
  · exact ((h.updLine l _).reportBoth _).reportBoth _
  · exact (((h.updLine l _).reportBoth _).setQueue l _ _).judge l

theorem Part.asQuietAs.injectSymbols (lk : LinkId) (line : Byte) (l : LineId) (xs : List Symbol) :
    (p.injectSymbols lk line l xs).asQuietAs was := by
  have hone : ∀ (q : Part) (x : Symbol), q.asQuietAs was → (q.injectOne lk l x).asQuietAs was :=
    fun q x hq => ((hq.updLine l _).setQueue l _ _).reportBoth _
  have hi : (p.injectAll lk l xs).asQuietAs was :=
    Part.asQuietAs.judge (foldl_keeps (Part.asQuietAs · was) _ hone xs p h) l
  unfold Part.injectSymbols
  split
  · exact h.report lk _
  · exact hi.report lk _

/-! ### The supervisor (chapter 03) -/

theorem Part.asQuietAs.startTimer (l : LineId) (k : TimerKind) : (p.startTimer l k).asQuietAs was := h.updLine l _
theorem Part.asQuietAs.raiseFlaps (l : LineId) : (p.raiseFlaps l).asQuietAs was := h.updLine l _
theorem Part.asQuietAs.dropDigit (l : LineId) : (p.dropDigit l).asQuietAs was := h.updLine l _

/-- Entry to a state makes no tests: they are removed with the run that they are about (R26). -/
theorem Part.asQuietAs.enterWithTimer (l : LineId) (st : LineState) : (p.enterWithTimer l st).asQuietAs was := by
  have he : (p.enterState l st).asQuietAs was := h.updLine l _ (.inl rfl)
  unfold Part.enterWithTimer
  split
  · exact he
  · exact he.startTimer l _

theorem Part.asQuietAs.seize (l : LineId) : (p.seize l).asQuietAs was := (h.updLine l _).enterWithTimer l .active

theorem Part.asQuietAs.leaveFor (l : LineId) (st : LineState) (c : LineCause) (lk : Option LinkId) :
    (p.leaveFor l st c lk).asQuietAs was := by
  have hc : (p.clearOut l).asQuietAs was := Part.asQuietAs.giveUpSender ((h.dropDigit l).updLine l _) l
  exact ((hc.setQueue l _ _).enterWithTimer l st).reportBoth _

theorem Part.asQuietAs.superviseTransition (l : LineId) (new : Loop) : (p.superviseTransition l new).asQuietAs was := by
  unfold Part.superviseTransition Part.abandonSeizure
  split
  · exact h.enterWithTimer l .seizing
  · split
    · exact (h.raiseFlaps l).leaveFor l .quarantine .flap none
    · exact (h.raiseFlaps l).enterWithTimer l .idle
  · exact h.updLine l _
  · exact h.startTimer l .settle
  · exact h

theorem Part.asQuietAs.takeClear (l : LineId) : (p.takeClear l).asQuietAs was := by
  unfold Part.takeClear
  split
  · split
    · split
      · exact (h.raiseFlaps l).leaveFor l .quarantine .flap none
      · exact (h.raiseFlaps l).leaveFor l .idle .clear none
    · exact h.leaveFor l .idle .clear none
  · exact h.leaveFor l .idle .clear none
  · exact h.leaveFor l .idle .clear none
  all_goals exact h

theorem Part.asQuietAs.expireLine (l : LineId) : (p.expireLine l).asQuietAs was := by
  have hrest : (p.restExpiry l).asQuietAs was := by
    unfold Part.restExpiry
    split
    · exact h.updLine l _
    · exact h
  have hseize : ((p.restExpiry l).seizeExpiry l).asQuietAs was := by
    unfold Part.seizeExpiry
    split
    · exact ((hrest.seize l).reportBoth _).judge l
    · exact hrest
  have hfirst : (((p.restExpiry l).seizeExpiry l).firstDigitExpiry l).asQuietAs was := by
    unfold Part.firstDigitExpiry
    split
    · exact hseize.leaveFor l _ _ none
    · exact hseize
  have hpartial : ((((p.restExpiry l).seizeExpiry l).firstDigitExpiry l).partialExpiry l).asQuietAs was := by
    unfold Part.partialExpiry
    split
    · exact hfirst.leaveFor l _ _ none
    · exact hfirst
  unfold Part.expireLine Part.settleExpiry
  split
  · exact (hpartial.enterWithTimer l _).reportBoth _
  · exact hpartial

theorem Part.asQuietAs.faultReviewed (l : LineId) : (p.faultReviewed l).asQuietAs was := by
  cases hs : (p.line l).state <;> simp only [Part.faultReviewed, hs]
  case disabled => exact h
  case quarantine => exact h.startTimer l .settle
  all_goals
    split
    · exact h.leaveFor l .quarantine .fault none
    · exact h

theorem Part.asQuietAs.reviewLine (l : LineId) : (p.reviewLine l).asQuietAs was := by
  have hc : (p.classed l).asQuietAs was := by
    rw [Part.classed_eq]
    split
    · exact h.setLine l _
    · exact (h.setLine l _).reportBoth _
  by_cases hd : (p.line l).state = .disabled
  · rw [p.reviewLine_disabled l hd]
    exact h
  · rw [p.reviewLine_enabled l hd]
    split
    · exact hc.faultReviewed l
    · exact hc

theorem Part.asQuietAs.classReview : p.classReview.asQuietAs was := by
  have hr : p.reviewTaken.asQuietAs was :=
    ⟨h.tests, congrArg (fun t : TimeBase => { t with reviewDue := false }) h.timeBase, h.waiting⟩
  unfold Part.classReview
  dsimp only
  repeat' split
  · exact hr
  · exact Part.forLines_keeps (·.asQuietAs was) _ (fun l _ hq => hq.reviewLine l) _ hr
  · exact h

/-! ### The decoder (chapter 02) -/

theorem Part.asQuietAs.setTests_made (l : LineId) : (p.setTests l .made).asQuietAs was := h.updLine l _ (.inl rfl)

theorem Part.asQuietAs.settleOpen (l : LineId) (b : Nat) : (p.settleOpen l b).asQuietAs was := by
  have hb : ∀ q : Part, q.asQuietAs was → (q.breakDigit l).asQuietAs was := by
    intro q hq
    unfold Part.breakDigit
    split
    · exact hq
    · exact (hq.dropDigit l).reportBoth _
  have ht := h.traceReport l .open b (openVerdict (p.line l).decoder.bmax (p.flashMin l) b)
  unfold Part.settleOpen Part.openRunActive Part.openRunConverse
  dsimp only
  repeat' split
  · exact (ht.updLine l _).startTimer l _
  · exact ht.updLine l _
  · exact ((hb _ ht).reportBoth _).startTimer l _
  · exact ht.reportBoth _
  · exact ht
  · exact ht

theorem Part.asQuietAs.settleClosed (l : LineId) (m : Nat) : (p.settleClosed l m).asQuietAs was := by
  have hs : ∀ x : Line, (x.withDecoder (fun d => d.settleMake m)).decoder.tests = x.decoder.tests := by
    intro x
    simp only [Line.withDecoder, Decoder.settleMake]
    split <;> rfl
  unfold Part.settleClosed
  dsimp only
  split
  · exact (h.traceReport l _ m _).updLine l _ (.inr (hs _))
  · exact h.traceReport l _ m _

theorem Part.asQuietAs.settleEnded (l : LineId) : (p.settleEnded l).asQuietAs was := by
  unfold Part.settleEnded
  dsimp only
  repeat' split
  · exact h
  · exact (h.updLine l _).settleOpen l _
  · exact (h.updLine l _).settleClosed l _

theorem Part.asQuietAs.gapTest (l : LineId) : (p.gapTest l).asQuietAs was := by
  have he : ∀ (q : Part) g, q.asQuietAs was → (q.endDigit l g).asQuietAs was := by
    intro q g hq
    unfold Part.endDigit
    dsimp only
    split
    · exact ((hq.dropDigit l).reportBoth _).startTimer l _
    · exact (((hq.dropDigit l).offerDigit l _ _ _ _).updLine l _).startTimer l _
  unfold Part.gapTest
  split
  · exact he _ _ (h.traceReport l _ _ _)
  · exact h

theorem Part.asQuietAs.clearTest (l : LineId) : (p.clearTest l).asQuietAs was := by
  unfold Part.clearTest
  split
  · exact (h.traceReport l _ _ _).takeClear l
  · exact h

theorem Part.asQuietAs.endRun (l : LineId) (new : Loop) (t : LineTime) : (p.endRun l new t).asQuietAs was := by
  have ha : ∀ x : Line, (x.withDecoder (fun d => d.absorb new t)).decoder.tests = x.decoder.tests := by
    intro x
    simp only [Line.withDecoder, Decoder.absorb]
    split <;> rfl
  unfold Part.endRun
  dsimp only
  repeat' split
  · exact h.updLine l _
  · exact (h.updLine l _ (.inr (ha _))).traceReport l _ _ _
  · exact h.updLine l _

/-! ### The links (chapter 08) -/

theorem Part.asQuietAs.failLink (lk : LinkId) (c : PlaneCause) : (p.failLink lk c).asQuietAs was :=
  (h.updLink lk _).report lk.other _

theorem Part.asQuietAs.receiveError (lk : LinkId) (e : ErrorInfo) : (p.receiveError lk e).asQuietAs was := by
  rcases p.receiveError_cases lk e with ⟨-, k⟩ | ⟨-, k⟩ | ⟨-, k⟩ <;> rw [k]
  · exact h.report lk _
  · exact h.failLink lk _
  · exact h

theorem Part.asQuietAs.expireLink (lk : LinkId) : (p.expireLink lk).asQuietAs was := by
  have hbreak : (p.longBreak lk).asQuietAs was := by
    unfold Part.longBreak
    split
    · exact ((h.updLink lk _).report lk _).report lk.other _
    · exact h
  have hgap : ((p.longBreak lk).gapTimerExpiry lk).asQuietAs was := by
    unfold Part.gapTimerExpiry
    split
    · exact (hbreak.updLink lk _).receiveError lk _
    · exact hbreak
  unfold Part.expireLink Part.auditExpiry
  dsimp only
  repeat' split
  · exact ((hgap.updLink lk _).report lk _).report lk.other _
  · exact hgap.failLink lk _
  · exact hgap
  · exact hgap

theorem Part.asQuietAs.auditCommand (lk : LinkId) (ch : Half) : (p.auditCommand lk ch).asQuietAs was := by
  have hr : ∀ (q : Part) st, q.asQuietAs was → (q.auditReturn lk st).asQuietAs was := by
    intro q st hq
    unfold Part.auditReturn
    split
    · exact (hq.report lk _).report lk.other _
    · exact hq
  unfold Part.auditCommand
  split
  · exact ((h.updLink lk _).report lk _).report lk.other _
  all_goals
    split
    · exact (hr _ _ (h.updLink lk _)).report lk _
    · exact h.report lk _

/-! ### The commands -/

/-- A command for a line in the states of its rule (R65, R161). -/
theorem Part.asQuietAs.lineCommand (lk : LinkId) (kind line : Byte) (states : List LineState)
    {f : LineId → Part → Part} (hf : ∀ l q, q.asQuietAs was → (f l q).asQuietAs was) :
    (p.lineCommand lk kind line (fun l q => q.inStates lk kind line l states (f l))).asQuietAs was :=
  Part.lineCommand_keeps (·.asQuietAs was) lk kind line (fun _ hq => hq.report lk _)
    (fun l q hq => Part.inStates_keeps (·.asQuietAs was) lk kind line l states (hq.report lk _) (hf l q hq)) h

/-- The same for a command for a line and a profile. -/
theorem Part.asQuietAs.lineProfileCommand (lk : LinkId) (kind line profile : Byte) (states : List LineState)
    {f : LineId → ProfileId → Part → Part} (hf : ∀ l i q, q.asQuietAs was → (f l i q).asQuietAs was) :
    (p.lineProfileCommand lk kind line profile (fun l i q => q.inStates lk kind line l states (f l i))).asQuietAs was :=
  Part.lineProfileCommand_keeps (·.asQuietAs was) lk kind line profile (fun _ hq => hq.report lk _)
    (fun l i q hq => Part.inStates_keeps (·.asQuietAs was) lk kind line l states (hq.report lk _) (hf l i q hq)) h

theorem Part.asQuietAs.freeTrace (l : LineId) : (p.freeTrace l).asQuietAs was := by
  unfold Part.freeTrace
  split
  · exact h
  · exact (h.setTraceSlot _ none).updLine l _

theorem Part.asQuietAs.setGate (lk : LinkId) (l : LineId) (g : Gate) (c : LineCause) :
    (p.setGate lk l g c).asQuietAs was := by
  have hg : ∀ st, ((p.updLine l (fun x => { x with gate := g })).lineStateReport l st c (some lk) 0).asQuietAs was :=
    fun _ => (h.updLine l _).reportBoth _
  unfold Part.setGate Part.gateChanged
  repeat' split
  · exact h
  · exact (hg _).judge l
  · exact (hg _).beside
  · exact hg _

theorem Part.asQuietAs.enableCommand (lk : LinkId) (line profile : Byte) :
    (p.enableCommand lk line profile).asQuietAs was :=
  h.lineProfileCommand lk _ line profile _ (fun l _ _ hq =>
    (((hq.updLine l _).enterWithTimer l _).reportBoth _).report lk _)

theorem Part.asQuietAs.setProfileCommand (lk : LinkId) (line profile : Byte) :
    (p.setProfileCommand lk line profile).asQuietAs was := by
  refine h.lineProfileCommand lk _ line profile _ (fun l i q hq => ?_)
  dsimp only
  split
  · exact (hq.updLine l _).report lk _
  · exact ((hq.updLine l _).reportBoth _).report lk _

theorem Part.asQuietAs.resumeCommand (lk : LinkId) (line : Byte) : (p.resumeCommand lk line).asQuietAs was :=
  h.lineCommand lk _ line _ (fun l _ hq =>
    ((((hq.updLine l _).enterWithTimer l _).reportBoth _).judge l).report lk _)

theorem Part.asQuietAs.restoreCommand (lk : LinkId) (line : Byte) : (p.restoreCommand lk line).asQuietAs was := by
  refine h.lineCommand lk _ line _ (fun l q hq => ?_)
  have he : ((q.updLine l (fun x => { x with timer := none, flaps := 0 })).restoreEntry l).asQuietAs was := by
    unfold Part.restoreEntry
    split
    · exact (hq.updLine l _).enterWithTimer l .idle
    · exact (hq.updLine l _).seize l
  exact ((he.reportBoth _).judge l).report lk _

theorem Part.asQuietAs.withdraw (lk : LinkId) (l : LineId) : (p.withdraw lk l).asQuietAs was :=
  ((h.giveUpSender l).setQueue l _ _).reportBoth _

theorem Part.asQuietAs.injectCommand (lk : LinkId) (line : Byte) (codes : List Byte) :
    (p.injectCommand lk line codes).asQuietAs was := by
  refine h.lineCommand lk _ line _ (fun l q hq => ?_)
  repeat' split
  · exact hq.report lk _
  · exact hq.report lk _
  · exact hq.injectSymbols lk line l _

theorem Part.asQuietAs.traceOnCommand (lk : LinkId) (line : Byte) : (p.traceOnCommand lk line).asQuietAs was := by
  refine h.lineCommand lk _ line _ (fun l q hq => ?_)
  split
  · exact hq.report lk _
  · exact ((hq.setTraceSlot _ _).updLine l _).report lk _
  · exact hq.report lk _

theorem Part.asQuietAs.writeProfileCommand (lk : LinkId) (profile : Byte) (r : RawProfile) :
    (p.writeProfileCommand lk profile r).asQuietAs was := by
  refine Part.onLink_keeps (·.asQuietAs was) lk (fun q hq => ?_) h
  split
  · exact hq.report lk _
  · next i _ =>
    have hs : (q.setProfile i (clampProfile r)).asQuietAs was := hq.beside
    exact (hs.reportBoth _).report lk _

theorem Part.asQuietAs.writeConventionCommand (lk : LinkId) (convention : Byte) (es : Vector Byte 10) :
    (p.writeConventionCommand lk convention es).asQuietAs was := by
  refine Part.onLink_keeps (·.asQuietAs was) lk (fun q hq => ?_) h
  split
  · exact hq.report lk _
  · next i _ =>
    have hs : (q.setConvention i (storedConvention es)).asQuietAs was := hq.beside
    exact (hs.reportBoth _).report lk _

theorem Part.asQuietAs.writeGlobalsCommand (lk : LinkId) (r : RawGlobals) :
    (p.writeGlobalsCommand lk r).asQuietAs was := by
  refine Part.onLink_keeps (·.asQuietAs was) lk (fun q hq => ?_) h
  have hs : ({ q with globals := clampGlobals r } : Part).asQuietAs was := hq.beside
  exact (hs.reportBoth _).report lk _

theorem Part.asQuietAs.readSettingsCommand (lk : LinkId) (kind index : Byte) :
    (p.readSettingsCommand lk kind index).asQuietAs was := by
  refine Part.onLink_keeps (·.asQuietAs was) lk (fun q hq => ?_) h
  split
  · exact hq.report lk _
  · exact hq.report lk _

/-- No command makes a part wait for more (R161). -/
theorem Part.asQuietAs.takeCommand (c : Instr) : (p.takeCommand c).asQuietAs was := by
  cases c with
  | audit lk ch => exact h.auditCommand lk ch
  | enable lk l i => exact h.enableCommand lk l i
  | disable lk l => exact h.lineCommand lk _ l _ (fun m _ hq => ((hq.freeTrace m).leaveFor m _ _ _).report lk _)
  | setProfile lk l i => exact h.setProfileCommand lk l i
  | openGate lk l => exact h.lineCommand lk _ l _ (fun m _ hq => (hq.setGate lk m _ _).report lk _)
  | shutGate lk l => exact h.lineCommand lk _ l _ (fun m _ hq => (hq.setGate lk m _ _).report lk _)
  | converse lk l => exact h.lineCommand lk _ l _ (fun m _ hq => (hq.leaveFor m _ _ _).report lk _)
  | resume lk l => exact h.resumeCommand lk l
  | park lk l => exact h.lineCommand lk _ l _ (fun m _ hq => (hq.leaveFor m _ _ _).report lk _)
  | restore lk l => exact h.restoreCommand lk l
  | withdraw lk l => exact h.lineCommand lk _ l _ (fun m _ hq => (hq.withdraw lk m).report lk _)
  | inject lk l xs => exact h.injectCommand lk l xs
  | relearn lk l => exact h.lineCommand lk _ l _ (fun m _ hq => (hq.updLine m _).report lk _)
  | traceOn lk l => exact h.traceOnCommand lk l
  | traceOff lk l =>
    exact Part.lineCommand_keeps (·.asQuietAs was) lk _ l (fun _ hq => hq.report lk _)
      (fun m _ hq => (hq.freeTrace m).report lk _) h
  | queryLine lk l =>
    exact Part.lineCommand_keeps (·.asQuietAs was) lk _ l (fun _ hq => hq.report lk _) (fun _ _ hq => hq.report lk _) h
  | writeProfile lk i r => exact h.writeProfileCommand lk i r
  | writeConvention lk i es => exact h.writeConventionCommand lk i es
  | writeGlobals lk r => exact h.writeGlobalsCommand lk r
  | readSettings lk k i => exact h.readSettingsCommand lk k i
  | _ => exact h

/-! ### What comes before a tick or a frame (chapter 09) -/

theorem Part.asQuietAs.settlePhases : p.settlePhases.asQuietAs was :=
  Part.forSenders_keeps (·.asQuietAs was) _ (fun k _ hq => (hq.onPhaseEnd k).toneOffEnd k) p h

theorem Part.asQuietAs.settleExpiries : p.settleExpiries.asQuietAs was :=
  ((Part.forLines_keeps (·.asQuietAs was) _ (fun l _ hq => hq.expireLine l) _ h.classReview).expireLink .a).expireLink .b

theorem Part.asQuietAs.abortForLoss (k : SenderId) : (p.abortForLoss k).asQuietAs was := by
  unfold Part.abortForLoss
  split
  · exact h
  · exact (h.abortOnly _).judge _
  · exact h.setSender k _

end
end Sys2Proof.Machine
end

section
/-!
SUPPORT. After what may not wait has been taken nothing waits (assumption logs 4, 6, 36 and 37), and the watchdog stands
as it stood.
-/
set_option Elab.async false

namespace Sys2Proof.Machine

variable (p : Part)

/-! ### The tests of a line's latest sample (R42) -/

/-- Where the tests of a line are made, the part waits for no more than the part with those tests taken as made. -/
theorem Part.asQuietAs_setTests_made (l : LineId) (h : (p.line l).decoder.tests = .made) :
    p.asQuietAs (p.setTests l .made) := by
  refine ⟨fun m => ?_, rfl, fun lk => ?_⟩
  · by_cases e : m = l
    · exact .inl (e ▸ h)
    · rw [Part.setTests, Part.line_updLine_ne _ _ _ _ e]
      exact .inr rfl
  · rw [Part.setTests, Part.link_updLine]

theorem Part.line_setTests_self (l : LineId) (t : SampleTests) : ((p.setTests l t).line l).decoder.tests = t := by
  rw [Part.setTests, Part.line_updLine_self]
  rfl

/-- The confirmation test leaves the gap and clear tests to be made, or there was none to make. -/
theorem Part.confirmationStage_cases (l : LineId) :
    (p.confirmationStage l).asQuietAs (p.setTests l .limit)
      ∨ (p.line l).decoder.tests ≠ .confirmation ∧ p.confirmationStage l = p := by
  unfold Part.confirmationStage
  split
  · refine .inl ?_
    split
    · exact Part.asQuietAs.settleEnded ((p.setTests l .limit).asQuietAs_refl.updLine l _) l
    · exact Part.asQuietAs_refl _
  · next h => exact .inr ⟨h, rfl⟩

theorem Part.confirmationStage_tests (l : LineId) :
    ((p.confirmationStage l).line l).decoder.tests ≠ .confirmation := by
  rcases p.confirmationStage_cases l with h | ⟨h, e⟩
  · rcases h.tests l with k | k <;> rw [k]
    · decide
    · rw [p.line_setTests_self]
      decide
  · rwa [e]

/-- After its confirmation test a line's gap and clear tests make what is left. -/
theorem Part.limitStages_quiet (l : LineId) (h : (p.line l).decoder.tests ≠ .confirmation) :
    ((p.gapStage l).clearStage l).asQuietAs (p.setTests l .made) := by
  have hclear : ∀ q : Part, q.asQuietAs (p.setTests l .made) → (q.clearStage l).asQuietAs (p.setTests l .made) := by
    intro q hq
    unfold Part.clearStage
    split
    · exact (hq.setTests_made l).clearTest l
    · exact hq
  cases ht : (p.line l).decoder.tests with
  | confirmation => exact absurd ht h
  | made =>
    have hg : p.gapStage l = p := by simp [Part.gapStage, ht]
    rw [hg]
    exact hclear p (p.asQuietAs_setTests_made l ht)
  | limit =>
    by_cases hd : (p.line l).slicer.debounced = .closed
    · have hg : p.gapStage l = (p.setTests l .made).gapTest l := if_pos ⟨ht, hd⟩
      rw [hg]
      exact hclear _ (Part.asQuietAs.gapTest (Part.asQuietAs_refl _) l)
    · have hopen : (p.line l).slicer.debounced = .open := by
        cases h : (p.line l).slicer.debounced
        · rfl
        · exact absurd h hd
      have hg : p.gapStage l = p := if_neg (fun k => hd k.2)
      have hc : p.clearStage l = (p.setTests l .made).clearTest l := if_pos ⟨ht, hopen⟩
      rw [hg, hc]
      exact Part.asQuietAs.clearTest (Part.asQuietAs_refl _) l

/-- A line whose tests were changed to be made waits for none. -/
theorem Part.asQuietAs.tested {p q : Part} {l : LineId} {t : SampleTests} (h : q.asQuietAs (p.setTests l t)) :
    (q.setTests l .made).asQuietAs p := by
  refine ⟨fun m => ?_, h.timeBase, fun lk => ?_⟩
  · by_cases e : m = l
    · rw [e, Part.line_setTests_self]
      exact .inl rfl
    · have hm := h.tests m
      rw [Part.setTests, Part.line_updLine_ne _ _ _ _ e] at hm ⊢
      exact hm
  · rw [Part.setTests, Part.link_updLine, h.waiting lk, Part.setTests, Part.link_updLine]

theorem Part.finishTests_quiet (l : LineId) :
    (p.finishTests l).asQuietAs ((p.confirmationStage l).setTests l .made) :=
  Part.limitStages_quiet _ l (p.confirmationStage_tests l)

theorem Part.finishTests_tests (l : LineId) : ((p.finishTests l).line l).decoder.tests = .made :=
  (p.finishTests_quiet l).made l (Part.line_setTests_self _ l _)

/-- Making the tests of a line makes the part wait for no more. -/
theorem Part.asQuietAs.finishTests {p was : Part} (h : p.asQuietAs was) (l : LineId) :
    (p.finishTests l).asQuietAs was := by
  have hc : ((p.confirmationStage l).setTests l .made).asQuietAs p := by
    rcases p.confirmationStage_cases l with k | ⟨-, e⟩
    · exact k.tested
    · rw [e]
      exact p.asQuietAs_refl.setTests_made l
  exact Part.asQuietAs_trans (p.finishTests_quiet l) (Part.asQuietAs_trans hc h)

theorem Part.settleSamples_quiet : p.settleSamples.asQuietAs p :=
  Part.forLines_keeps (Part.asQuietAs · p) _ (fun l _ hq => hq.finishTests l) p p.asQuietAs_refl

/-- The tests of every line's latest sample are made, each line's at its turn (assumption log 4). -/
theorem Part.settleSamples_tests (l : LineId) : (p.settleSamples.line l).decoder.tests = .made := by
  obtain ⟨before, after, he, -, -⟩ := allLines_split l
  rw [Part.settleSamples, Part.forLines, he, List.foldl_append, List.foldl_cons]
  exact foldl_keeps (fun q : Part => (q.line l).decoder.tests = .made) _
    (fun q m hq => (q.asQuietAs_refl.finishTests m).made l hq) after _ (Part.finishTests_tests _ l)

/-! ### The LOCKING timeout and the messages -/

/-- The LOCKING timeout taken: due no longer; the lines, the messages and the watchdog stand as they stood (R183). -/
theorem Part.lockingTimeout_leaves : (∀ l, p.lockingTimeout.line l = p.line l)
    ∧ p.lockingTimeout.timeBase.lockingDue = false ∧ p.lockingTimeout.timeBase.watchdog = p.timeBase.watchdog := by
  unfold Part.lockingTimeout
  split
  · split
    · rw [Part.reportBoth_timeBase]
      exact ⟨fun l => Part.line_reportBoth _ _ l, rfl, rfl⟩
    · exact ⟨fun _ => rfl, rfl, rfl⟩
  · next h => exact ⟨fun _ => rfl, Bool.eq_false_iff.2 h, rfl⟩

/-- A waiting message taken, the part waits for no more than without that message (R160, R161). -/
theorem Part.takeWaiting_quiet (lk : LinkId) : (p.takeWaiting lk).asQuietAs (p.dropWaiting lk) := by
  have hd := (p.dropWaiting lk).asQuietAs_refl
  unfold Part.takeWaiting
  split
  · next h =>
    have hk : { p.link lk with waiting := none } = p.link lk := by rw [← h]
    rw [Part.dropWaiting, Part.updLink, hk, Part.setLink_link]
    exact p.asQuietAs_refl
  · exact hd.receiveError lk _
  · exact hd.takeCommand _

/-- Where no tests and no timeout wait, nothing waits after both links' messages have been taken. -/
theorem Part.takeWaiting_settles (ht : ∀ l, (p.line l).decoder.tests = .made) (hd : p.timeBase.lockingDue = false) :
    ((p.takeWaiting .a).takeWaiting .b).settled := by
  have ha := p.takeWaiting_quiet .a
  have hb := (p.takeWaiting .a).takeWaiting_quiet .b
  refine ⟨fun l => hb.made l ?_, ?_, (hb.waiting .a).trans (ha.waiting .a), hb.waiting .b⟩
  · rw [Part.line_dropWaiting]
    exact ha.made l (by rw [Part.line_dropWaiting]; exact ht l)
  · rw [hb.lockingDue, Part.dropWaiting_timeBase, ha.lockingDue, Part.dropWaiting_timeBase, hd]

/-- Nothing waits after what may not wait has been taken. -/
theorem Part.settleUrgent_settles : p.settleUrgent.settled := by
  obtain ⟨hl, hd, -⟩ := p.settleSamples.lockingTimeout_leaves
  have ht : ∀ l, (p.settleSamples.lockingTimeout.line l).decoder.tests = .made := fun l => by
    rw [hl]
    exact p.settleSamples_tests l
  rw [Part.settleUrgent]
  exact p.settleSamples.lockingTimeout.takeWaiting_settles ht hd

theorem Part.settleUrgent_watchdog : p.settleUrgent.timeBase.watchdog = p.timeBase.watchdog := by
  obtain ⟨-, -, hw⟩ := p.settleSamples.lockingTimeout_leaves
  rw [Part.settleUrgent, (Part.takeWaiting_quiet _ .b).watchdog, Part.dropWaiting_timeBase,
    (Part.takeWaiting_quiet _ .a).watchdog, Part.dropWaiting_timeBase, hw, p.settleSamples_quiet.watchdog]

end Sys2Proof.Machine
end

section
/-!
PROOF. Short frames, the frame watchdog and the LOCKING timeout (R179 to R181, R183, R186, assumption logs 22 and 27).
-/
set_option Elab.async false

namespace Sys2Proof.Machine

/-! ### The watchdog through the loss of the frame clock -/

/-- A first sample makes no tests (R12, assumption log 25). -/
theorem Part.firstSample_quiet (p : Part) (l : LineId) (c : Nat) (t : LineTime) : (p.firstSample l c t).asQuietAs p := by
  have hs : ∀ a, ((p.updLine l (fun x => x.withSlicer (fun s => s.takeDirect c))).startRun l a t).asQuietAs p :=
    fun _ => (p.asQuietAs_refl.updLine l _).updLine l _ (.inl rfl)
  unfold Part.firstSample
  dsimp only
  split
  · exact (hs _).enterWithTimer l .seizing
  · exact hs _

/-- A debounced sample makes tests due, and leaves the time base (R42). -/
theorem Part.debouncedSample_watchdog (p : Part) (l : LineId) (c : Nat) (t : LineTime) :
    (p.debouncedSample l c t).timeBase.watchdog = p.timeBase.watchdog := by
  have hs : (p.updLine l (fun x => x.withSlicer (fun s => s.take c))).asQuietAs p := p.asQuietAs_refl.updLine l _
  unfold Part.debouncedSample
  dsimp only
  split
  · exact (Part.asQuietAs.superviseTransition ((hs.endRun l _ _).updLine l _) l _).watchdog
  · rfl

theorem Part.handSample_watchdog (p : Part) (l : LineId) (c : Nat) (t : LineTime) :
    (p.handSample l c t).timeBase.watchdog = p.timeBase.watchdog := by
  unfold Part.handSample
  repeat' split
  · rfl
  · exact (p.firstSample_quiet l c t).watchdog
  · exact p.debouncedSample_watchdog l c t

theorem Part.handHeld_watchdog (p : Part) (t : LineTime) :
    (p.handHeld t).timeBase.watchdog = p.timeBase.watchdog := by
  unfold Part.handHeld
  exact Part.forLines_keeps (fun q => q.timeBase.watchdog = p.timeBase.watchdog)
    (fun l q => q.handSample l (q.scan.held.get l).toNat t) (fun l q hq => (q.handSample_watchdog l _ t).trans hq) p rfl

theorem Part.scanMiss_watchdog (p : Part) (t : LineTime) :
    (p.scanMiss t).timeBase.watchdog = p.timeBase.watchdog := by
  unfold Part.scanMiss
  repeat' split
  · rfl
  · rw [Part.handHeld_watchdog]
  · rw [Part.loseScan_timeBase]

/-- The strobe of a tick leaves the watchdog (R1, R3, R4). -/
theorem Part.tickCore_watchdog (p : Part) : p.tickCore.timeBase.watchdog = p.timeBase.watchdog := by
  have ht : p.ticked.timeBase.watchdog = p.timeBase.watchdog := by
    rw [Part.ticked_eq]
    rfl
  rw [Part.tickCore_eq, ← ht]
  unfold Part.strobe
  dsimp only
  repeat' split
  · rfl
  · exact Part.scanMiss_watchdog _ _
  · rfl

/-- The loss of the frame clock leaves the watchdog (R113, R184). -/
theorem Part.loseClock_watchdog (p : Part) : p.loseClock.timeBase.watchdog = p.timeBase.watchdog := by
  have habort : ∀ q : Part, (q.forSenders (fun k r => r.abortForLoss k)).asQuietAs q := fun q =>
    Part.forSenders_keeps (Part.asQuietAs · q) _ (fun k _ hr => hr.abortForLoss k) q q.asQuietAs_refl
  have hfall : ∀ q : Part,
      (q.setTimeBase (fun t => { t with state := .fallback, divider := 0, runCount := 0 })).timeBase.watchdog
        = q.timeBase.watchdog := fun _ => rfl
  unfold Part.loseClock
  dsimp only
  rw [Part.reportBoth_timeBase, (habort _).watchdog, Part.tickCore_watchdog, hfall]
  exact p.asQuietAs_refl.settlePhases.settleExpiries.watchdog

/-- A watchdog whose expiry has been taken does not run (R180). -/
theorem Part.watchdogExpiry_spent (p : Part) (n : Nat) (hw : p.timeBase.watchdog = some (n + 1)) :
    p.watchdogExpiry.timeBase.watchdog = none := by
  cases hs : p.timeBase.state <;> simp only [Part.watchdogExpiry, hw, hs]
  case locked => exact Part.loseClock_watchdog _
  all_goals rfl

/-! ### The rows -/

theorem exec_shortFrame_ready (s : State) (h : s.ready) : exec .shortFrame s = .next s := by
  change Host.Outcome.next (s.onPart Part.settleUrgent) = _
  rw [State.onPart_working s _ h.1, s.part.settleUrgent_settled h.2]

theorem exec_highwayFrame_short (s : State) (slots : List Half) (h : s.ready) (hl : slots.length < 64) :
    exec (.highwayFrame slots) s = .next s := by
  change Host.Outcome.next (if slots.length < 64 then _ else _) = _
  rw [if_pos hl]
  exact exec_shortFrame_ready s h

theorem exec_oscillatorMillisecond_ready (s : State) (h : s.ready) :
    exec .oscillatorMillisecond s = .next (s.withPart s.part.oscillatorMark) :=
  congrArg Host.Outcome.next (s.onPart_ready Part.oscillatorMark h)

/-- Outside LOCKED the watchdog's expiry clears the run count (R180). -/
theorem Part.watchdogExpiry_unlocked (p : Part) (n : Nat) (hw : p.timeBase.watchdog = some (n + 1))
    (hs : p.timeBase.state ≠ .locked) :
    p.watchdogExpiry = p.setTimeBase (fun t => { t with watchdog := none, runCount := 0 }) := by
  cases h : p.timeBase.state with
  | locked => exact absurd h hs
  | locking => simp only [Part.watchdogExpiry, hw, h]
  | fallback => simp only [Part.watchdogExpiry, hw, h]

/-- In LOCKED an oscillator mark times the watchdog and gives no tick (R181). -/
theorem Part.oscillatorMark_locked (p : Part) (h : p.settled) (hw : p.timeBase.watchdog = some 0)
    (hs : p.timeBase.state = .locked) :
    p.oscillatorMark = p.setTimeBase (fun t => { t with watchdog := some 1 }) := by
  have hm : p.markWatchdog = p.setTimeBase (fun t => { t with watchdog := some 1 }) := by
    simp only [Part.markWatchdog, hw]
  have hq : (p.setTimeBase (fun t => { t with watchdog := some 1 })).settled := h
  have hl : (p.setTimeBase (fun t => { t with watchdog := some 1 })).timeBase.state = .locked := hs
  unfold Part.oscillatorMark
  rw [hm, Part.settleUrgent_settled _ hq]
  simp only [hl]

/-- A mark that finds the watchdog's expiry overdue is that expiry and a mark after it (assumption log 27). -/
theorem Part.oscillatorMark_overdue (p : Part) (n : Nat) (hw : p.timeBase.watchdog = some (n + 1)) :
    p.oscillatorMark = p.watchdogExpiry.settleUrgent.oscillatorMark := by
  have hfirst : p.markWatchdog = p.watchdogExpiry := by simp only [Part.markWatchdog, hw]
  have hnone : p.watchdogExpiry.settleUrgent.timeBase.watchdog = none :=
    (Part.settleUrgent_watchdog _).trans (p.watchdogExpiry_spent n hw)
  have hsecond : p.watchdogExpiry.settleUrgent.markWatchdog = p.watchdogExpiry.settleUrgent := by
    simp only [Part.markWatchdog, hnone]
  have hquiet := Part.settleUrgent_settled _ p.watchdogExpiry.settleUrgent_settles
  unfold Part.oscillatorMark
  rw [hfirst, hsecond, hquiet]

/-- After a frame taken in LOCKED that gives no tick the watchdog has just been started, and its expiry does nothing
(assumption log 27). -/
theorem frameWatchdogExpiry_after_frame (s t : State) (slots : List Half) (h : s.ready) (hp : s.part.phasesCurrent)
    (hs : s.part.timeBase.state = .locked) (hd : s.part.timeBase.divider < 7) (hl : slots.length = 64)
    (ht : exec (.highwayFrame slots) s = .next t) : exec .frameWatchdogExpiry t = .next t := by
  have hticks : s.part.timeBase.frameTicks = true → s.part.current := fun k =>
    absurd (s.part.timeBase.frameTicks_iff.1 k).2 (Nat.not_le.2 hd)
  rw [exec_highwayFrame_ready s slots h hp hl hticks, Part.takeFrame, s.part.sendersTakeFrame.countFrame_divides hs hd] at ht
  obtain rfl := Host.Outcome.next.inj ht
  rw [exec_frameWatchdogExpiry_ready _ (by exact h), Part.watchdogExpiry_not_due _ (.inr rfl)]
  rfl

/-- The LOCKING timeout's row at a part on which no tests wait takes the timeout alone (R183). -/
theorem exec_lockingTimeout_tested (s : State) (hh : s.hold.held = false)
    (ht : ∀ l, (s.part.line l).decoder.tests = .made) :
    exec .lockingTimeout s = .next (s.withPart s.part.lockingTimeout) := by
  have hq : s.part.settleSamples = s.part := s.part.forLines_fixed _ (fun l => s.part.finishTests_made l (ht l))
  change Host.Outcome.next (s.onPart (fun p => p.settleSamples.lockingTimeout)) = _
  rw [State.onPart_working s _ hh, hq]
  rfl

/-- Settles O53, from the row of each event at a ready state and what it does to the time base. -/
theorem frameAndLockingTimeouts : Obligations.FrameAndLockingTimeouts := by
  unfold Obligations.FrameAndLockingTimeouts
  refine fun s => ⟨fun h => ⟨exec_shortFrame_ready s h, fun slots hl => exec_highwayFrame_short s slots h hl, ?_, ?_,
    fun slots t hp hs hd hl ht => frameWatchdogExpiry_after_frame s t slots h hp hs hd hl ht, ?_⟩,
    fun hh ht hd => ⟨?_, ?_⟩⟩
  · rintro ⟨n, hw⟩ hs
    rw [exec_frameWatchdogExpiry_ready s h, s.part.watchdogExpiry_unlocked n hw hs]
    rfl
  · intro hw hs
    rw [exec_oscillatorMillisecond_ready s h, s.part.oscillatorMark_locked h.2 hw hs]
    rfl
  · intro n t hw ht
    rw [exec_frameWatchdogExpiry_ready s h] at ht
    obtain rfl := Host.Outcome.next.inj ht
    rw [exec_oscillatorMillisecond_ready s h, s.part.oscillatorMark_overdue n hw]
    exact (congrArg Host.Outcome.next (s.onPart_withPart h.1 _ (fun p => p.settleUrgent.oscillatorMark))).symm
  · intro hs
    rw [exec_lockingTimeout_tested s hh ht, Part.lockingTimeout, if_pos hd, if_pos hs]
    rfl
  · intro hs
    rw [exec_lockingTimeout_tested s hh ht, Part.lockingTimeout, if_pos hd, if_neg hs]
    rfl

end Sys2Proof.Machine
end

section
/-!
PROOF. Rows that come where their event is not due (assumption logs 3, 14, 17 and 27): each operation at a part that does
not hold its event is said here once, and each such row then leaves a ready state as it is.
-/

namespace Sys2Proof.Machine

/-! ### Operations that are not due -/

section
variable (p : Part) (l : LineId)

section
variable (h : (p.line l).decoder.tests = .made)
include h

theorem Part.confirmationStage_made : p.confirmationStage l = p := by
  rw [Part.confirmationStage, h, if_neg (by decide)]

theorem Part.gapStage_made : p.gapStage l = p :=
  if_neg fun hd => absurd (h.symm.trans hd.1) (by decide)

theorem Part.clearStage_made : p.clearStage l = p :=
  if_neg fun hd => absurd (h.symm.trans hd.1) (by decide)

end

theorem Part.classReview_not_due (h : p.timeBase.reviewDue = false) : p.classReview = p := by
  rw [Part.classReview, h, if_neg Bool.false_ne_true]

theorem Line.not_expired {x : Line} {k : TimerKind} (h : x.timer ≠ some ⟨k, 0⟩) : ¬ x.expired k = true :=
  fun he => h (of_decide_eq_true he)

theorem Part.restExpiry_not_due (h : (p.line l).timer ≠ some ⟨.rest, 0⟩) : p.restExpiry l = p :=
  if_neg (Line.not_expired h)

theorem Part.seizeExpiry_not_due (h : (p.line l).timer ≠ some ⟨.seize, 0⟩) : p.seizeExpiry l = p :=
  if_neg (Line.not_expired h)

theorem Part.firstDigitExpiry_not_due (h : (p.line l).timer ≠ some ⟨.firstDigit, 0⟩) : p.firstDigitExpiry l = p :=
  if_neg (Line.not_expired h)

theorem Part.partialExpiry_not_due (h : (p.line l).timer ≠ some ⟨.partialDial, 0⟩) : p.partialExpiry l = p :=
  if_neg (Line.not_expired h)

theorem Part.settleExpiry_not_due (h : (p.line l).timer ≠ some ⟨.settle, 0⟩) : p.settleExpiry l = p :=
  if_neg (Line.not_expired h)

end

section
variable (p : Part) (k : SenderId)

theorem Part.onPhaseEnd_not_due (h : (p.sender k).onPhaseDone = false) : p.onPhaseEnd k = p := by
  simp only [Part.onPhaseEnd, h]

theorem Part.toneOffEnd_not_due (h : (p.sender k).offPhaseDone = false) : p.toneOffEnd k = p := by
  simp only [Part.toneOffEnd, h]

end

section
variable (p : Part) (lk : LinkId)

theorem Part.takeWaitingError_none (h : (p.link lk).waiting = none) : p.takeWaitingError lk = p := by
  simp only [Part.takeWaitingError, h]

theorem Part.gapTimerExpiry_not_due (h : (p.link lk).gapExpired = false) : p.gapTimerExpiry lk = p := by
  simp only [Part.gapTimerExpiry, h]

theorem Part.auditExpiry_not_due (h : (p.link lk).auditTimer ≠ some 0) : p.auditExpiry lk = p :=
  if_neg fun he => h (of_decide_eq_true he)

theorem Link.breakLong_listening (k : Link) (h : k.receiver = .listening) : k.breakLong = false := by
  simp only [Link.breakLong, h]

/-- Outside a break its end has no restart to take first and nothing of its own to do (R156). -/
theorem Part.shortBreak_no_break (h : (p.link lk).receiver = .listening ∨ (p.link lk).receiver = .deaf) :
    (p.longBreak lk).shortBreak lk = p := by
  rcases h with h | h
  · rw [p.longBreak_not_due lk (Link.breakLong_listening _ h)]
    simp only [Part.shortBreak, h]
  · rw [p.longBreak_not_due lk (Link.breakLong_deaf _ h)]
    simp only [Part.shortBreak, h]

/-- A return to marking acts on a deaf receiver alone, and a break below 20 ticks has no restart that would make the
receiver deaf first (R156). -/
theorem Part.returnToMarking_hearing
    (h : (p.link lk).receiver = .listening ∨ ∃ n < 20, (p.link lk).receiver = .breaking n) :
    (p.longBreak lk).returnToMarking lk = p := by
  rcases h with h | ⟨n, hn, h⟩
  · rw [p.longBreak_not_due lk (Link.breakLong_listening _ h)]
    simp only [Part.returnToMarking, h]
  · have hlong : (p.link lk).breakLong = false :=
      (Link.breakLong_breaking _ n h).trans (decide_eq_false (Nat.not_le.2 hn))
    rw [p.longBreak_not_due lk hlong]
    simp only [Part.returnToMarking, h]

theorem Link.finishSending_none (k : Link) (stamp : Half) (h : k.sending = none) : k.finishSending stamp = k := by
  simp only [Link.finishSending, h]

/-- A receiver that measures a break or is deaf takes no character (R156, assumption log 14). -/
theorem Link.takeCharacter_not_listening (k : Link) (v : Vector WireLevel 10) (stop : WireLevel) (n : Fin 3)
    (h : k.receiver ≠ .listening) : k.takeCharacter lk v stop n = k := by
  cases hr : k.receiver with
  | listening => exact absurd hr h
  | breaking m => simp only [Link.takeCharacter, hr]
  | deaf => simp only [Link.takeCharacter, hr]

end

/-! ### Rows that are not due -/

section
variable (s : State) (h : s.ready)
include h

/-- A row whose meaning leaves the part as it is leaves a ready state as it is. -/
theorem State.onPart_unchanged (f : Part → Part) (hf : f s.part = s.part) :
    Host.Outcome.next (s.onPart f) = (.next s : Host.Outcome State Fault Refusal) := by
  rw [State.onPart_working s f h.1, hf]

/-- The same where the row first takes what may not wait: at a ready state nothing waits. -/
theorem State.onPart_urgent_unchanged (f : Part → Part) (hf : f s.part = s.part) :
    Host.Outcome.next (s.onPart (fun p => f p.settleUrgent)) = (.next s : Host.Outcome State Fault Refusal) :=
  s.onPart_unchanged h _ ((congrArg f (s.part.settleUrgent_settled h.2)).trans hf)

/-- At a ready state the tests of every sample are made, so none of the three rows finds a test to make (R42). -/
theorem exec_test_made (c : Instr) (l : LineId) (hc : c = .runConfirmation l ∨ c = .gap l ∨ c = .clear l) :
    exec c s = .next s := by
  obtain ⟨hmade, -⟩ := h.2
  have hconfirm := s.part.confirmationStage_made l (hmade l)
  rcases hc with rfl | rfl | rfl
  · exact s.onPart_unchanged h (·.confirmationStage l) hconfirm
  · exact s.onPart_unchanged h (fun p => (p.confirmationStage l).gapStage l)
      ((congrArg (·.gapStage l) hconfirm).trans (s.part.gapStage_made l (hmade l)))
  · exact s.onPart_unchanged h (fun p => (p.confirmationStage l).clearStage l)
      ((congrArg (·.clearStage l) hconfirm).trans (s.part.clearStage_made l (hmade l)))

/-- The expiry of a timer that is not running at 0 (R51, R53, R56, R64). -/
theorem exec_lineExpiry_not_due (c : Instr) (l : LineId) (k : TimerKind)
    (hc : (k, c) ∈ [(TimerKind.rest, Instr.restExpiry l), (.seize, .seizeExpiry l), (.firstDigit, .firstDigitExpiry l)
      , (.partialDial, .partialExpiry l), (.settle, .settleExpiry l)])
    (ht : (s.part.line l).timer ≠ some ⟨k, 0⟩) : exec c s = .next s := by
  simp only [List.mem_cons, Prod.mk.injEq, List.not_mem_nil, or_false] at hc
  rcases hc with ⟨rfl, rfl⟩ | ⟨rfl, rfl⟩ | ⟨rfl, rfl⟩ | ⟨rfl, rfl⟩ | ⟨rfl, rfl⟩
  · exact s.onPart_urgent_unchanged h (·.restExpiry l) (s.part.restExpiry_not_due l ht)
  · exact s.onPart_urgent_unchanged h (·.seizeExpiry l) (s.part.seizeExpiry_not_due l ht)
  · exact s.onPart_urgent_unchanged h (·.firstDigitExpiry l) (s.part.firstDigitExpiry_not_due l ht)
  · exact s.onPart_urgent_unchanged h (·.partialExpiry l) (s.part.partialExpiry_not_due l ht)
  · exact s.onPart_urgent_unchanged h (·.settleExpiry l) (s.part.settleExpiry_not_due l ht)

/-- No reset is under way that could end (R187, assumption log 17). -/
theorem exec_partResetEnd_working (a b : WireLevel) : exec (.partResetEnd a b) s = .next s := by
  change Host.Outcome.next (if s.hold.held then _ else s.onPart Part.settleUrgent) = _
  rw [if_neg (Bool.eq_false_iff.1 h.1)]
  exact s.onPart_unchanged h Part.settleUrgent (s.part.settleUrgent_settled h.2)

/-- No receive error waits on any link of a ready state (R160). -/
theorem exec_receiveError_settled (lk : LinkId) : exec (.receiveError lk) s = .next s := by
  obtain ⟨hmade, hdue, -⟩ := h.2
  have hnone := s.part.settled_waiting h.2
  have hbefore := s.part.nothing_before_waiting lk hmade hdue (hnone lk.other)
  refine s.onPart_unchanged h
    (fun p => (p.settleSamples.lockingTimeout.takeWaiting lk.other).takeWaitingError lk) ?_
  rw [hbefore, s.part.takeWaitingError_none lk (hnone lk)]

theorem exec_characterTaken_not_heard (lk : LinkId) (v : Vector WireLevel 10) (stop : WireLevel) (n : Fin 3)
    (hc : (s.part.link lk).receiver ≠ .listening ∨ v.get 0 = .marking) :
    exec (.characterTaken lk v stop n) s = .next s := by
  have hk : (s.part.link lk).takeCharacter lk v stop n = s.part.link lk := by
    by_cases hr : (s.part.link lk).receiver = .listening
    · exact Link.takeCharacter_no_start lk _ v n hr stop (hc.resolve_left (not_not_intro hr))
    · exact Link.takeCharacter_not_listening lk _ v stop n hr
  rw [exec_characterTaken_ready s lk h, hk, Part.setLink_link]
  rfl

theorem exec_reportTransmissionComplete_none (lk : LinkId) (hn : (s.part.link lk).sending = none) :
    exec (.reportTransmissionComplete lk) s = .next s := by
  rw [exec_reportTransmissionComplete_ready s lk h, Link.finishSending_none _ _ hn, Part.setLink_link]
  rfl

end

/-- Settles O3, by the row that comes: its operation leaves the part of a ready state as it is. -/
theorem rowsThatAreNotDueChangeNothing : Obligations.RowsThatAreNotDueChangeNothing := by
  unfold Obligations.RowsThatAreNotDueChangeNothing
  intro s c h hcase
  rcases hcase with ⟨l, hc⟩ | ⟨rfl, hd⟩ | ⟨l, k, hc, ht⟩ | ⟨k, x, rfl, ⟨rfl, hd⟩ | ⟨rfl, hd⟩⟩ | ⟨rfl, hw⟩ | rfl | ⟨a, b, rfl⟩
    | ⟨lk, k, rfl, hlink⟩
  · exact exec_test_made s h c l hc
  · exact s.onPart_urgent_unchanged h Part.classReview (s.part.classReview_not_due hd)
  · exact exec_lineExpiry_not_due s h c l k hc ht
  · exact s.onPart_urgent_unchanged h (·.onPhaseEnd k) (s.part.onPhaseEnd_not_due k hd)
  · exact s.onPart_urgent_unchanged h (·.toneOffEnd k) (s.part.toneOffEnd_not_due k hd)
  · exact s.onPart_urgent_unchanged h Part.watchdogExpiry (s.part.watchdogExpiry_not_due hw)
  · obtain ⟨hmade, -⟩ := h.2
    rw [exec_lockingTimeout_tested s h.1 hmade, s.part.lockingTimeout_settled h.2]
    rfl
  · exact exec_partResetEnd_working s h a b
  rcases hlink with rfl | ⟨rfl, hg⟩ | ⟨rfl, hb⟩ | ⟨rfl, hr⟩ | ⟨rfl, hr⟩ | ⟨rfl, ha⟩ | ⟨rfl, hn⟩ | ⟨v, stop, n, rfl, hv⟩
  · exact exec_receiveError_settled s h lk
  · exact s.onPart_urgent_unchanged h (·.gapTimerExpiry lk) (s.part.gapTimerExpiry_not_due lk hg)
  · exact s.onPart_urgent_unchanged h (·.longBreak lk) (s.part.longBreak_not_due lk hb)
  · exact s.onPart_urgent_unchanged h (fun p => (p.longBreak lk).shortBreak lk) (s.part.shortBreak_no_break lk hr)
  · exact s.onPart_urgent_unchanged h (fun p => (p.longBreak lk).returnToMarking lk)
      (s.part.returnToMarking_hearing lk hr)
  · exact s.onPart_urgent_unchanged h (·.auditExpiry lk) (s.part.auditExpiry_not_due lk ha)
  · exact exec_reportTransmissionComplete_none s h lk hn
  · exact exec_characterTaken_not_heard s h lk v stop n hv

end Sys2Proof.Machine
end

section
/-!
SUPPORT. The writes that the operations of the rows are made of, said once: records of lines beside the sender pool, the moves
of cells and senders, the leaving of a state, and the settings. What each of these writes keeps, every row keeps.
-/
set_option Elab.async false

namespace Sys2Proof.Machine

/-! ### Records of lines -/

/-- A SETTLE timer runs (R49). -/
def Line.settling (x : Line) : Prop := x.timer.map Timer.kind = some .settle

/-- What a new period estimate is made from: the old one, the old one and a pair (R37), or a profile (R12, R13). -/
def Part.periodSource (p : Part) (old new : Nat) : Prop :=
  new = old ∨ (∃ n, new = adaptPeriod old n) ∨ ∃ i, new = 16 * (p.profile i).pNom

/-- A record of a line written anew, its cells and its sender kept: ACTIVE is left by no line but one whose SETTLE timer
runs, and a SETTLE timer is started in QUARANTINE alone. -/
structure Part.rewrites (p : Part) (x y : Line) : Prop where
  queue : y.queue = x.queue
  sender : y.sender = x.sender
  state : y.state = x.state ∨ y.state = .active ∨ x.state ≠ .active ∨ x.settling
  timer : y.settling → y.state = .quarantine ∨ (x.settling ∧ y.state = x.state)
  period : p.periodSource x.decoder.pEst y.decoder.pEst

theorem Part.rewrites_refl (p : Part) (x : Line) : p.rewrites x x :=
  ⟨rfl, rfl, .inl rfl, fun h => .inr ⟨h, rfl⟩, .inl rfl⟩

/-- Two parts that differ at most in rewritten records of lines, and in what neither the pool nor the settings hold. LOCKED
may be entered; it is not left. -/
structure Part.aside (p q : Part) : Prop where
  line : ∀ l, p.rewrites (p.line l) (q.line l)
  senders : q.senders = p.senders
  grantQueue : q.grantQueue = p.grantQueue
  profiles : q.profiles = p.profiles
  globals : q.globals = p.globals
  timeBase : q.timeBase.state = .locked ∨ p.timeBase.state ≠ .locked

/-- A write of what neither lines, pool nor settings hold. -/
theorem Part.aside_of_lines {p q : Part} (hl : q.lines = p.lines) (hk : q.senders = p.senders)
    (hg : q.grantQueue = p.grantQueue) (hp : q.profiles = p.profiles) (hn : q.globals = p.globals)
    (ht : q.timeBase.state = .locked ∨ p.timeBase.state ≠ .locked) : p.aside q := by
  refine ⟨fun l => ?_, hk, hg, hp, hn, ht⟩
  rw [show q.line l = p.line l by simp only [Part.line, hl]]
  exact p.rewrites_refl _

theorem TimeBaseState.kept {t u : TimeBaseState} (h : u = t) : u = .locked ∨ t ≠ .locked := by
  rw [h]
  exact em (t = .locked)

/-- The time base is left by a write of a line. -/
theorem Part.aside_setLine (p : Part) (l : LineId) (y : Line) (hy : p.rewrites (p.line l) y) : p.aside (p.setLine l y) := by
  refine ⟨fun m => ?_, rfl, rfl, rfl, rfl, TimeBaseState.kept rfl⟩
  by_cases e : m = l
  · rw [e, Part.line_setLine_self]
    exact hy
  · rw [Part.line_setLine_ne _ _ _ _ e]
    exact p.rewrites_refl _

theorem Line.tick_settling (x : Line) : x.tick.settling ↔ x.settling := by
  simp only [Line.settling, Line.tick]
  cases x.timer <;> exact Iff.rfl

/-- A tick counts the timers of the lines (R49). -/
theorem Part.aside_tickLines (p : Part) : p.aside p.tickLines := by
  have hbeside : p.tickLines.senders = p.senders ∧ p.tickLines.grantQueue = p.grantQueue
      ∧ p.tickLines.globals = p.globals ∧ p.tickLines.timeBase = p.timeBase := by
    unfold Part.tickLines
    split <;> exact ⟨rfl, rfl, rfl, rfl⟩
  obtain ⟨hk, hg, hn, ht⟩ := hbeside
  refine ⟨fun l => ?_, hk, hg, p.tickLines_profiles, hn, TimeBaseState.kept (by rw [ht])⟩
  rcases p.line_tickLines l with h | h <;> rw [h]
  · exact p.rewrites_refl _
  · exact ⟨rfl, rfl, .inl rfl, fun h => .inr ⟨(Line.tick_settling _).1 h, rfl⟩, .inl rfl⟩

/-! ### The writes of the store and the pool -/

/-- What an abort does to the cell leaves the sender and the line's hold of it (R109). -/
theorem Part.abortCell_holds (p : Part) (l : LineId) (k : SenderId) :
    ((p.abortCell l k).line l).sender = (p.line l).sender := by
  unfold Part.abortCell Part.commit Part.restoreHead
  repeat' split
  all_goals simp [Part.setLine, Laws.get_set_self, Part.line]

/-- A predicate of the part that the writes of the store, of the pool and beside them keep. -/
structure Part.KeptByPool (I : Part → Prop) : Prop where
  aside : ∀ p q, p.aside q → I p → I q
  /-- Cells leave a queue, or change in one that holds some or belongs to an ACTIVE line. -/
  requeue : ∀ l cs n p, cs = [] ∨ (p.line l).queue ≠ [] ∨ (p.line l).state = .active → I p →
    I { p.setLine l { p.line l with queue := cs } with free := n }
  grantOnce : ∀ p, I p → I p.grantOnce
  join : ∀ l p, p.eligible l = true → I p → I { p with grantQueue := p.grantQueue ++ [l] }
  leaveGrantQueue : ∀ l p, I p → I (p.leaveGrantQueue l)
  freeSender : ∀ l k p, (p.line l).sender = some k ∨ (p.sender k).line = some l → I p → I (p.freeSender l k)

section
variable {I : Part → Prop} (K : Part.KeptByPool I)
include K

theorem Part.KeptByPool.report (lk : LinkId) (b : ReportBody) {p : Part} (h : I p) : I (p.report lk b) :=
  K.aside _ _ (Part.aside_of_lines (by simp) (by simp) (by simp) (by simp) (by simp) (TimeBaseState.kept (by simp))) h

theorem Part.KeptByPool.reportBoth (b : ReportBody) {p : Part} (h : I p) : I (p.reportBoth b) :=
  K.report .b b (K.report .a b h)

theorem Part.KeptByPool.grantTest {p : Part} (h : I p) : I p.grantTest := Part.grantTest_keeps I K.grantOnce p h

theorem Part.KeptByPool.judge (l : LineId) {p : Part} (h : I p) : I (p.judge l) :=
  Part.judge_keeps I K.grantOnce l (fun q hq e => K.join l q e hq) p h

theorem Part.KeptByPool.flush (l : LineId) {p : Part} (h : I p) : I (p.flush l) := K.requeue l [] _ p (.inl rfl) h

theorem Part.KeptByPool.commit (l : LineId) (k : SenderId) (m : Manner) {p : Part} (h : I p) : I (p.commit l k m) := by
  cases hq : (p.line l).queue with
  | nil => simpa only [Part.commit, hq] using h
  | cons y rest =>
    rw [p.commit_cons l k m y rest hq]
    exact K.reportBoth _ (K.requeue l rest _ p (.inr (.inl (by simp [hq]))) h)

theorem Part.KeptByPool.restoreHead (l : LineId) {p : Part} (h : I p) : I (p.restoreHead l) := by
  cases hq : (p.line l).queue with
  | nil => simpa only [Part.restoreHead, hq] using h
  | cons y rest =>
    rw [p.restoreHead_cons l y rest hq]
    exact K.requeue l _ p.free p (.inr (.inl (by simp [hq]))) h

/-- A cell is enqueued at an ACTIVE line (R78, R91). -/
theorem Part.KeptByPool.enqueue (l : LineId) (c : Cell) {p : Part} (hs : (p.line l).state = .active) (h : I p) :
    I (p.enqueue l c) := K.requeue l _ _ p (.inr (.inr hs)) h

theorem Part.KeptByPool.abortOnly (l : LineId) {p : Part} (h : I p) : I (p.abortOnly l) := by
  cases hk : (p.line l).sender with
  | none => simpa only [Part.abortOnly, hk] using h
  | some k =>
    have hc : I (p.abortCell l k) := by
      unfold Part.abortCell
      repeat' split
      · exact K.commit l k _ h
      · exact K.restoreHead l h
      · exact h
      · exact h
    simp only [Part.abortOnly, hk]
    exact K.freeSender l k _ (.inl ((p.abortCell_holds l k).trans hk)) hc

theorem Part.KeptByPool.abort (l : LineId) {p : Part} (h : I p) : I (p.abort l) := by
  unfold Part.abort
  split
  · exact h
  · exact K.grantTest (K.abortOnly l h)

theorem Part.KeptByPool.giveUpSender (l : LineId) {p : Part} (h : I p) : I (p.giveUpSender l) :=
  K.leaveGrantQueue l _ (K.abort l h)

theorem Part.KeptByPool.release (l : LineId) (k : SenderId) {p : Part} (hk : (p.sender k).line = some l) (h : I p) :
    I (p.release l k) := K.grantTest (K.judge l (K.freeSender l k p (.inr hk) h))

end

/-! ### Every write -/

theorem Part.injectOne_state (p : Part) (lk : LinkId) (l : LineId) (x : Symbol) :
    ((p.injectOne lk l x).line l).state = (p.line l).state := by
  rw [p.injectOne_eq, Part.line_reportBoth, Part.stored_line]

/-- A MAKE leaves the period estimate or adapts it by a pair (R36, R37). -/
theorem Decoder.settleMake_pEst (d : Decoder) (m : Nat) :
    (d.settleMake m).pEst = d.pEst ∨ ∃ n, (d.settleMake m).pEst = adaptPeriod d.pEst n := by
  unfold Decoder.settleMake
  split
  · exact .inr ⟨_, rfl⟩
  · exact .inl rfl

/-- A predicate of the part that every write of the rows' operations keeps. -/
structure Part.KeptByWrites (I : Part → Prop) : Prop extends Part.KeptByPool I where
  /-- Steps 3 to 6 of R59. -/
  leave : ∀ l st p, I p → I (((p.giveUpSender l).flush l).enterWithTimer l st)
  continueBurst : ∀ l k p, (p.sender k).line = some l → (p.sender k).state ≠ .free → I p → I (p.continueBurst l k)
  toOff : ∀ k p, (p.sender k).state = .toneOn → I p → I (p.setSender k (p.sender k).toOff)
  dropSender : ∀ k p, (p.sender k).line = none → I p → I (p.setSender k Sender.freed)
  sendersTakeFrame : ∀ p, I p → I p.sendersTakeFrame
  writeProfile : ∀ i r p, I p → I (p.setProfile i (clampProfile r))
  writeGlobals : ∀ r p, I p → I { p with globals := clampGlobals r }
  atReset : ∀ cause a b, I (Part.atReset cause a b)

section
variable {I : Part → Prop} (K : Part.KeptByWrites I) {p : Part}
include K

/-! Single writes. -/

theorem Part.KeptByWrites.setLine (l : LineId) (y : Line) (h : I p)
    (hy : p.rewrites (p.line l) y := by exact ⟨rfl, rfl, .inl rfl, fun h => .inr ⟨h, rfl⟩, .inl rfl⟩) : I (p.setLine l y) :=
  K.aside _ _ (p.aside_setLine l y hy) h

theorem Part.KeptByWrites.updLine (l : LineId) (f : Line → Line) (h : I p)
    (hf : p.rewrites (p.line l) (f (p.line l)) := by
      exact ⟨rfl, rfl, .inl rfl, fun h => .inr ⟨h, rfl⟩, .inl rfl⟩) : I (p.updLine l f) := K.setLine l _ h hf

theorem Part.KeptByWrites.updLink (lk : LinkId) (f : Link → Link) (h : I p) : I (p.updLink lk f) :=
  K.aside _ _ (Part.aside_of_lines (by simp) (by simp) (by simp) (by simp) (by simp) (TimeBaseState.kept (by simp))) h

theorem Part.KeptByWrites.setScan (c : Scan) (h : I p) : I { p with scan := c } :=
  K.aside p _ (Part.aside_of_lines rfl rfl rfl rfl rfl (TimeBaseState.kept rfl)) h

theorem Part.KeptByWrites.setTraceSlot (i : SlotId) (o : Option LineId) (h : I p) : I (p.setTraceSlot i o) :=
  K.aside p _ (Part.aside_of_lines rfl rfl rfl rfl rfl (TimeBaseState.kept rfl)) h

theorem Part.KeptByWrites.setConvention (i : ConventionId) (r : Convention) (h : I p) : I (p.setConvention i r) :=
  K.aside p _ (Part.aside_of_lines rfl rfl rfl rfl rfl (TimeBaseState.kept rfl)) h

/-- The time base may be written if LOCKED is not left. -/
theorem Part.KeptByWrites.setTimeBase (f : TimeBase → TimeBase) (h : I p)
    (hf : (f p.timeBase).state = .locked ∨ p.timeBase.state ≠ .locked := by exact TimeBaseState.kept rfl) :
    I (p.setTimeBase f) := K.aside p _ (Part.aside_of_lines rfl rfl rfl rfl rfl hf) h

theorem Part.KeptByWrites.traceReport (l : LineId) (a : Loop) (n : Nat) (v : Verdict) (h : I p) :
    I (p.traceReport l a n v) := by
  unfold Part.traceReport
  split
  · exact K.reportBoth _ h
  · exact h

/-! The store and the pool (chapters 04 and 05). -/

theorem Part.KeptByWrites.offerDigit (l : LineId) (x : Symbol) (n : Nat) (mean : Option Nat) (c : ConventionId)
    (hs : (p.line l).state = .active) (h : I p) : I (p.offerDigit l x n mean c) := by
  have hi : I (p.updLine l (fun y => { y with digitIndex := nextIndex (p.line l).digitIndex })) := K.updLine l _ h
  unfold Part.offerDigit
  dsimp only
  split
  · exact K.reportBoth _ (K.reportBoth _ hi)
  · refine K.judge l (K.enqueue l _ ?_ (K.reportBoth _ hi))
    rw [Part.line_reportBoth, Part.line_updLine_self]
    exact hs

theorem Part.KeptByWrites.injectOne (lk : LinkId) (l : LineId) (x : Symbol) (hs : (p.line l).state = .active) (h : I p) :
    I (p.injectOne lk l x) := by
  refine K.reportBoth _ (K.enqueue l _ ?_ (K.updLine l _ h))
  rw [Part.line_updLine_self]
  exact hs

theorem Part.KeptByWrites.injectSymbols (lk : LinkId) (line : Byte) (l : LineId) (xs : List Symbol)
    (hs : (p.line l).state = .active) (h : I p) : I (p.injectSymbols lk line l xs) := by
  have hall := foldl_keeps (fun q : Part => (q.line l).state = .active ∧ I q) (fun q x => q.injectOne lk l x)
    (fun q x hq => ⟨(q.injectOne_state lk l x).trans hq.1, K.injectOne lk l x hq.1 hq.2⟩) xs p ⟨hs, h⟩
  unfold Part.injectSymbols
  split
  · exact K.report lk _ h
  · exact K.report lk _ (K.judge l hall.2)

theorem Part.KeptByWrites.onPhaseEnd (k : SenderId) (h : I p) : I (p.onPhaseEnd k) := by
  unfold Part.onPhaseEnd
  split
  · next l hd hl =>
    have hon : (p.sender k).state = .toneOn := by
      cases hs : (p.sender k).state
      case toneOn => rfl
      all_goals simp [Sender.onPhaseDone, hs] at hd
    have hk : (p.commit l k .endOfTone).sender k = p.sender k := by
      unfold Part.commit
      split
      · rfl
      · exact Part.sender_reportBoth _ _ k
    have ht := K.toOff k _ (by rw [hk]; exact hon) (K.commit l k .endOfTone h)
    rwa [hk] at ht
  · exact h

theorem Part.KeptByWrites.toneOffEnd (k : SenderId) (h : I p) : I (p.toneOffEnd k) := by
  unfold Part.toneOffEnd
  split
  · next l hd hl =>
    split
    · refine K.continueBurst l k p hl (fun hs => ?_) h
      simp [Sender.offPhaseDone, hs] at hd
    · exact K.release l k hl h
  · exact h

theorem Part.KeptByWrites.abortForLoss (k : SenderId) (h : I p) : I (p.abortForLoss k) := by
  unfold Part.abortForLoss
  split
  · exact h
  · exact K.judge _ (K.abortOnly _ h)
  · next hl _ => exact K.dropSender k p hl h

/-! The supervisor (chapter 03). -/

/-- A timer starts; SETTLE in QUARANTINE alone (R49, R63, R64). -/
theorem Part.KeptByWrites.startTimer (l : LineId) (k : TimerKind) (hk : k ≠ .settle ∨ (p.line l).state = .quarantine)
    (h : I p) : I (p.startTimer l k) :=
  K.updLine l _ h ⟨rfl, rfl, .inl rfl, fun hx => .inl (hk.resolve_left (fun e => e (Option.some.inj hx))), .inl rfl⟩

theorem Part.KeptByWrites.stopTimer (l : LineId) (h : I p) : I (p.stopTimer l) :=
  K.updLine l _ h ⟨rfl, rfl, .inl rfl, fun hx => absurd hx (by simp [Line.settling]), .inl rfl⟩

theorem Part.KeptByWrites.dropDigit (l : LineId) (h : I p) : I (p.dropDigit l) := K.updLine l _ h
theorem Part.KeptByWrites.raiseFlaps (l : LineId) (h : I p) : I (p.raiseFlaps l) := K.updLine l _ h

/-- A line enters a state with its timer; ACTIVE is left so by no line but one whose SETTLE timer runs (R49). -/
theorem Part.KeptByWrites.enterWithTimer (l : LineId) (st : LineState)
    (hs : st = .active ∨ (p.line l).state ≠ .active ∨ (p.line l).settling) (h : I p) : I (p.enterWithTimer l st) := by
  have he : I (p.enterState l st) :=
    K.updLine l _ h ⟨rfl, rfl, .inr hs, fun hx => absurd hx (by simp [Line.settling]), .inl rfl⟩
  cases hk : st.timer with
  | none => simpa only [Part.enterWithTimer, hk] using he
  | some k =>
    simp only [Part.enterWithTimer, hk]
    refine K.startTimer l k ?_ he
    rw [Part.enterState, Part.line_updLine_self]
    revert hk
    cases st <;> rintro ⟨⟩ <;> simp

theorem Part.KeptByWrites.seize (l : LineId) (h : I p) : I (p.seize l) :=
  K.enterWithTimer l .active (.inl rfl) (K.updLine l _ h)

/-- The steps of R59. -/
theorem Part.KeptByWrites.leaveFor (l : LineId) (st : LineState) (c : LineCause) (lk : Option LinkId) (h : I p) :
    I (p.leaveFor l st c lk) := K.reportBoth _ (K.leave l st _ (K.stopTimer l (K.dropDigit l h)))

theorem Part.KeptByWrites.superviseTransition (l : LineId) (new : Loop) (h : I p) : I (p.superviseTransition l new) := by
  unfold Part.superviseTransition Part.abandonSeizure
  split
  · next hs => exact K.enterWithTimer l .seizing (.inr (.inl (by simp [hs]))) h
  · next hs =>
    split
    · exact K.leaveFor l .quarantine .flap none (K.raiseFlaps l h)
    · refine K.enterWithTimer l .idle (.inr (.inl ?_)) (K.raiseFlaps l h)
      rw [Part.raiseFlaps, Part.line_updLine_self]
      simp [hs]
  · exact K.updLine l _ h
  · next hs => exact K.startTimer l .settle (.inr hs) h
  · exact h

theorem Part.KeptByWrites.takeClear (l : LineId) (h : I p) : I (p.takeClear l) := by
  unfold Part.takeClear
  split
  · split
    · split
      · exact K.leaveFor l .quarantine .flap none (K.raiseFlaps l h)
      · exact K.leaveFor l .idle .clear none (K.raiseFlaps l h)
    · exact K.leaveFor l .idle .clear none h
  · exact K.leaveFor l .idle .clear none h
  · exact K.leaveFor l .idle .clear none h
  all_goals exact h

theorem Part.KeptByWrites.restExpiry (l : LineId) (h : I p) : I (p.restExpiry l) := by
  unfold Part.restExpiry
  split
  · exact K.updLine l _ h ⟨rfl, rfl, .inl rfl, fun hx => absurd hx (by simp [Line.settling]), .inl rfl⟩
  · exact h

theorem Part.KeptByWrites.seizeExpiry (l : LineId) (h : I p) : I (p.seizeExpiry l) := by
  unfold Part.seizeExpiry
  split
  · exact K.judge l (K.reportBoth _ (K.seize l h))
  · exact h

theorem Part.KeptByWrites.firstDigitExpiry (l : LineId) (h : I p) : I (p.firstDigitExpiry l) := by
  unfold Part.firstDigitExpiry
  split
  · exact K.leaveFor l _ _ none h
  · exact h

theorem Part.KeptByWrites.partialExpiry (l : LineId) (h : I p) : I (p.partialExpiry l) := by
  unfold Part.partialExpiry
  split
  · exact K.leaveFor l _ _ none h
  · exact h

theorem Part.KeptByWrites.settleExpiry (l : LineId) (h : I p) : I (p.settleExpiry l) := by
  unfold Part.settleExpiry
  split
  · next he =>
    have hx : (p.line l).settling := by rw [Line.settling, of_decide_eq_true he]; rfl
    exact K.reportBoth _ (K.enterWithTimer l _ (.inr (.inr hx)) h)
  · exact h

theorem Part.KeptByWrites.faultReviewed (l : LineId) (h : I p) : I (p.faultReviewed l) := by
  cases hs : (p.line l).state <;> simp only [Part.faultReviewed, hs]
  case disabled => exact h
  case quarantine => exact K.startTimer l .settle (.inr hs) h
  all_goals
    split
    · exact K.leaveFor l .quarantine .fault none h
    · exact h

theorem Part.KeptByWrites.reviewLine (l : LineId) (h : I p) : I (p.reviewLine l) := by
  have hc : I (p.classed l) := by
    rw [Part.classed_eq]
    split
    · exact K.setLine l _ h
    · exact K.reportBoth _ (K.setLine l _ h)
  by_cases hd : (p.line l).state = .disabled
  · rw [p.reviewLine_disabled l hd]
    exact h
  · rw [p.reviewLine_enabled l hd]
    split
    · exact K.faultReviewed l hc
    · exact hc

theorem Part.KeptByWrites.classReview (h : I p) : I p.classReview := by
  have hr : I p.reviewTaken := K.setTimeBase (fun t => { t with reviewDue := false }) h
  unfold Part.classReview
  dsimp only
  repeat' split
  · exact hr
  · exact Part.forLines_keeps I _ (fun l _ => K.reviewLine l) _ hr
  · exact h

/-! The decoder (chapter 02). -/

theorem Part.KeptByWrites.setTests (l : LineId) (t : SampleTests) (h : I p) : I (p.setTests l t) := K.updLine l _ h

theorem Part.KeptByWrites.endRun (l : LineId) (new : Loop) (t : LineTime) (h : I p) : I (p.endRun l new t) := by
  have habsorb : ∀ d : Decoder, (d.absorb new t).pEst = d.pEst := fun d => by unfold Decoder.absorb; split <;> rfl
  unfold Part.endRun
  dsimp only
  repeat' split
  · exact K.updLine l _ h
  · exact K.traceReport l _ _ _
      (K.updLine l _ h ⟨rfl, rfl, .inl rfl, fun hx => .inr ⟨hx, rfl⟩, .inl (habsorb _)⟩)
  · exact K.updLine l _ h

theorem Part.KeptByWrites.settleOpen (l : LineId) (b : Nat) (h : I p) : I (p.settleOpen l b) := by
  have hbreak : ∀ q : Part, I q → I (q.breakDigit l) := by
    intro q hq
    unfold Part.breakDigit
    split
    · exact hq
    · exact K.reportBoth _ (K.dropDigit l hq)
  have ht := K.traceReport l .open b (openVerdict (p.line l).decoder.bmax (p.flashMin l) b) h
  unfold Part.settleOpen Part.openRunActive Part.openRunConverse
  dsimp only
  repeat' split
  · exact K.startTimer l _ (.inl (by decide)) (K.updLine l _ ht)
  · exact K.updLine l _ ht
  · exact K.startTimer l _ (.inl (by decide)) (K.reportBoth _ (hbreak _ ht))
  · exact K.reportBoth _ ht
  · exact ht
  · exact ht

theorem Part.KeptByWrites.settleClosed (l : LineId) (m : Nat) (h : I p) : I (p.settleClosed l m) := by
  have ht := K.traceReport l .closed m .make h
  unfold Part.settleClosed
  dsimp only
  split
  · refine K.updLine l _ ht ⟨rfl, rfl, .inl rfl, fun hx => .inr ⟨hx, rfl⟩, ?_⟩
    exact (Decoder.settleMake_pEst _ m).imp_right .inl
  · exact ht

theorem Part.KeptByWrites.settleEnded (l : LineId) (h : I p) : I (p.settleEnded l) := by
  unfold Part.settleEnded
  dsimp only
  repeat' split
  · exact h
  · exact K.settleOpen l _ (K.updLine l _ h)
  · exact K.settleClosed l _ (K.updLine l _ h)

theorem Part.KeptByWrites.confirmationStage (l : LineId) (h : I p) : I (p.confirmationStage l) := by
  unfold Part.confirmationStage
  repeat' split
  · exact K.settleEnded l (K.updLine l _ (K.setTests l .limit h))
  · exact K.setTests l .limit h
  · exact h

theorem Part.KeptByWrites.endDigit (l : LineId) (g : Digit) (hs : (p.line l).state = .active) (h : I p) :
    I (p.endDigit l g) := by
  have hd : ((p.dropDigit l).line l).state = .active := by
    rw [Part.dropDigit, Part.line_updLine_self]
    exact hs
  unfold Part.endDigit
  dsimp only
  refine K.startTimer l _ (.inl (by decide)) ?_
  split
  · exact K.reportBoth _ (K.dropDigit l h)
  · exact K.updLine l _ (K.offerDigit l _ _ _ _ hd (K.dropDigit l h))

theorem Part.KeptByWrites.gapStage (l : LineId) (h : I p) : I (p.gapStage l) := by
  have hm := K.setTests l .made h
  unfold Part.gapStage Part.gapTest
  split
  · split
    · next g hd _ =>
      refine K.endDigit l g ?_ (K.traceReport l _ _ _ hm)
      simp only [Line.gapDue, Bool.and_eq_true, decide_eq_true_eq, and_assoc] at hd
      rw [Part.line_traceReport]
      exact hd.1
    · exact hm
  · exact h

theorem Part.KeptByWrites.clearStage (l : LineId) (h : I p) : I (p.clearStage l) := by
  unfold Part.clearStage Part.clearTest
  repeat' split
  · exact K.takeClear l (K.traceReport l _ _ _ (K.setTests l .made h))
  · exact K.setTests l .made h
  · exact h

/-! The scan port (chapter 01). -/

theorem Part.KeptByWrites.firstSample (l : LineId) (c : Nat) (t : LineTime) (h : I p) : I (p.firstSample l c t) := by
  have hr : ∀ a, I ((p.updLine l (fun x => x.withSlicer (fun s => s.takeDirect c))).startRun l a t) :=
    fun a => K.updLine l _ (K.updLine l _ h)
  unfold Part.firstSample
  dsimp only
  split
  · next hs _ => exact K.enterWithTimer l .seizing (.inr (.inl (by simp [hs]))) (hr _)
  · exact hr _

theorem Part.KeptByWrites.handSample (l : LineId) (c : Nat) (t : LineTime) (h : I p) : I (p.handSample l c t) := by
  have htake : I (p.updLine l (fun x => x.withSlicer (fun s => s.take c))) := K.updLine l _ h
  have hcount : ∀ q : Part, I q → I (q.accumulate l t) := fun q hq => K.updLine l _ hq
  unfold Part.handSample Part.debouncedSample
  dsimp only
  repeat' split
  · exact h
  · exact K.firstSample l c t h
  · exact K.setTests l _ (K.superviseTransition l _ (hcount _ (K.endRun l _ _ htake)))
  · exact K.setTests l _ (hcount _ htake)

theorem Part.KeptByWrites.restoreSample (l : LineId) (c : Nat) (t : LineTime) (h : I p) : I (p.restoreSample l c t) := by
  have hr : ∀ a, I ((p.updLine l (fun x => x.withSlicer (fun s => s.takeDirect c))).startRun l a t) :=
    fun a => K.updLine l _ (K.updLine l _ h)
  unfold Part.restoreSample
  dsimp only
  repeat' split
  · exact h
  · exact K.firstSample l c t h
  · exact hr _
  · exact K.superviseTransition l _ (hr _)

theorem Part.KeptByWrites.handHeld (t : LineTime) (h : I p) : I (p.handHeld t) :=
  Part.forLines_keeps I _ (fun l _ => K.handSample l _ t) p h

theorem Part.KeptByWrites.loseLine (l : LineId) (h : I p) : I (p.loseLine l) := by
  unfold Part.loseLine
  split
  · exact h
  · exact h
  · exact K.startTimer l _ (.inl (by decide)) (K.reportBoth _ (K.dropDigit l h))

theorem Part.KeptByWrites.scanMiss (t : LineTime) (h : I p) : I (p.scanMiss t) := by
  unfold Part.scanMiss Part.loseScan
  repeat' split
  · exact h
  · exact K.handHeld t (K.setScan _ h)
  · exact Part.forLines_keeps I _ (fun l _ => K.loseLine l) _ (K.reportBoth _ (K.setScan _ h))

theorem Part.KeptByWrites.judgeFrame (bs : List Byte) (t : LineTime) (h : I p) : I (p.judgeFrame bs t) := by
  unfold Part.judgeFrame Part.restoreScan
  dsimp only
  repeat' split
  · exact K.handHeld t (K.setScan _ h)
  · exact Part.forLines_keeps I _ (fun l _ => K.restoreSample l _ t) _ (K.reportBoth _ (K.setScan _ h))
  · exact K.scanMiss t h

theorem Part.KeptByWrites.takeScanBytes (bs : List Byte) (h : I p) : I (p.takeScanBytes bs) := by
  unfold Part.takeScanBytes
  dsimp only
  repeat' split
  · exact h
  · exact K.judgeFrame _ _ (K.setScan _ h)
  · exact K.setScan _ h

theorem Part.KeptByWrites.strobe (now : LineTime) (h : I p) : I (p.strobe now) := by
  unfold Part.strobe
  dsimp only
  repeat' split
  · exact K.setScan _ h
  · exact K.setScan _ (K.scanMiss _ h)
  · exact K.setScan _ h

/-! The links (chapter 08). -/

theorem Part.KeptByWrites.receiveError (lk : LinkId) (e : ErrorInfo) (h : I p) : I (p.receiveError lk e) := by
  rcases p.receiveError_cases lk e with ⟨-, k⟩ | ⟨-, k⟩ | ⟨-, k⟩ <;> rw [k]
  · exact K.report lk _ h
  · exact K.report lk.other _ (K.updLink lk _ h)
  · exact h

theorem Part.KeptByWrites.auditExpiry (lk : LinkId) (h : I p) : I (p.auditExpiry lk) := by
  unfold Part.auditExpiry
  dsimp only
  repeat' split
  · exact K.report lk.other _ (K.report lk _ (K.updLink lk _ h))
  · exact K.report lk.other _ (K.updLink lk _ h)
  · exact h
  · exact h

theorem Part.KeptByWrites.auditCommand (lk : LinkId) (ch : Half) (h : I p) : I (p.auditCommand lk ch) := by
  have hr : ∀ (q : Part) st, I q → I (q.auditReturn lk st) := by
    intro q st hq
    unfold Part.auditReturn
    split
    · exact K.report lk.other _ (K.report lk _ hq)
    · exact hq
  unfold Part.auditCommand
  split
  · exact K.report lk.other _ (K.report lk _ (K.updLink lk _ h))
  all_goals
    split
    · exact K.report lk _ (hr _ _ (K.updLink lk _ h))
    · exact K.report lk _ h

theorem Part.KeptByWrites.longBreak (lk : LinkId) (h : I p) : I (p.longBreak lk) := by
  unfold Part.longBreak
  split
  · exact K.report lk.other _ (K.report lk _ (K.updLink lk _ h))
  · exact h

theorem Part.KeptByWrites.gapTimerExpiry (lk : LinkId) (h : I p) : I (p.gapTimerExpiry lk) := by
  unfold Part.gapTimerExpiry
  split
  · exact K.receiveError lk _ (K.updLink lk _ h)
  · exact h

theorem Part.KeptByWrites.shortBreak (lk : LinkId) (h : I p) : I (p.shortBreak lk) := by
  unfold Part.shortBreak
  split
  · exact K.receiveError lk _ (K.updLink lk _ h)
  · exact K.updLink lk _ h
  · exact h
  · exact h

theorem Part.KeptByWrites.returnToMarking (lk : LinkId) (h : I p) : I (p.returnToMarking lk) := by
  unfold Part.returnToMarking
  split
  · exact K.updLink lk _ h
  · exact h
  · exact h

/-! The commands. -/

/-- A command for a line in the states of its rule keeps what its effect keeps in those states (R65, R161). -/
theorem Part.KeptByWrites.lineCommand (lk : LinkId) (kind line : Byte) (states : List LineState)
    {f : LineId → Part → Part} (hf : ∀ l q, (q.line l).state ∈ states → I q → I (f l q)) (h : I p) :
    I (p.lineCommand lk kind line (fun l q => q.inStates lk kind line l states (f l))) := by
  refine Part.lineCommand_keeps I lk kind line (fun _ => K.report lk _) (fun l q hq => ?_) h
  unfold Part.inStates
  split
  · next hs => exact hf l q hs hq
  · exact K.report lk _ hq

/-- The same for a command for a line and a profile. -/
theorem Part.KeptByWrites.lineProfileCommand (lk : LinkId) (kind line profile : Byte) (states : List LineState)
    {f : LineId → ProfileId → Part → Part} (hf : ∀ l i q, (q.line l).state ∈ states → I q → I (f l i q)) (h : I p) :
    I (p.lineProfileCommand lk kind line profile (fun l i q => q.inStates lk kind line l states (f l i))) := by
  refine Part.lineProfileCommand_keeps I lk kind line profile (fun _ => K.report lk _) (fun l i q hq => ?_) h
  unfold Part.inStates
  split
  · next hs => exact hf l i q hs hq
  · exact K.report lk _ hq

theorem Part.KeptByWrites.freeTrace (l : LineId) (h : I p) : I (p.freeTrace l) := by
  unfold Part.freeTrace
  split
  · exact h
  · exact K.updLine l _ (K.setTraceSlot _ none h)

theorem Part.KeptByWrites.setGate (lk : LinkId) (l : LineId) (g : Gate) (c : LineCause) (h : I p) :
    I (p.setGate lk l g c) := by
  have hg : ∀ st, I ((p.updLine l (fun x => { x with gate := g })).lineStateReport l st c (some lk) 0) :=
    fun _ => K.reportBoth _ (K.updLine l _ h)
  unfold Part.setGate Part.gateChanged
  repeat' split
  · exact h
  · exact K.judge l (hg _)
  · exact K.leaveGrantQueue l _ (hg _)
  · exact hg _

/-- ENABLE seeds the period estimate from the profile (R12, R66). -/
theorem Part.KeptByWrites.enableCommand (lk : LinkId) (line profile : Byte) (h : I p) :
    I (p.enableCommand lk line profile) := by
  refine K.lineProfileCommand lk _ line profile _ (fun l i q hs hq => ?_) h
  rw [List.mem_singleton] at hs
  have he : I (q.updLine l (fun x => x.enabled i (q.profile i))) :=
    K.updLine l _ hq ⟨rfl, rfl, .inl rfl, fun hx => .inr ⟨hx, rfl⟩, .inr (.inr ⟨i, rfl⟩)⟩
  refine K.report lk _ (K.reportBoth _ (K.enterWithTimer l .idle (.inr (.inl ?_)) he))
  rw [Part.line_updLine_self, Line.enabled]
  simp [hs]

theorem Part.KeptByWrites.setProfileCommand (lk : LinkId) (line profile : Byte) (h : I p) :
    I (p.setProfileCommand lk line profile) := by
  refine K.lineProfileCommand lk _ line profile _ (fun l i q _ hq => ?_) h
  dsimp only
  split
  · exact K.report lk _ (K.updLine l _ hq)
  · exact K.report lk _ (K.reportBoth _ (K.updLine l _ hq))

theorem Part.KeptByWrites.resumeCommand (lk : LinkId) (line : Byte) (h : I p) : I (p.resumeCommand lk line) :=
  K.lineCommand lk _ line _ (fun l _ _ hq =>
    K.report lk _ (K.judge l (K.reportBoth _ (K.enterWithTimer l .active (.inl rfl) (K.updLine l _ hq))))) h

theorem Part.KeptByWrites.restoreCommand (lk : LinkId) (line : Byte) (h : I p) : I (p.restoreCommand lk line) := by
  refine K.lineCommand lk _ line _ (fun l q hs hq => ?_) h
  have hstop : I (q.updLine l (fun x => { x with timer := none, flaps := 0 })) :=
    K.updLine l _ hq ⟨rfl, rfl, .inl rfl, fun hx => absurd hx (by simp [Line.settling]), .inl rfl⟩
  have he : I ((q.updLine l (fun x => { x with timer := none, flaps := 0 })).restoreEntry l) := by
    unfold Part.restoreEntry
    split
    · refine K.enterWithTimer l .idle (.inr (.inl ?_)) hstop
      rw [Part.line_updLine_self]
      intro ha
      simp only at ha
      simp [ha] at hs
    · exact K.seize l hstop
  exact K.report lk _ (K.judge l (K.reportBoth _ he))

theorem Part.KeptByWrites.withdraw (lk : LinkId) (l : LineId) (h : I p) : I (p.withdraw lk l) :=
  K.reportBoth _ (K.flush l (K.giveUpSender l h))

theorem Part.KeptByWrites.injectCommand (lk : LinkId) (line : Byte) (codes : List Byte) (h : I p) :
    I (p.injectCommand lk line codes) := by
  refine K.lineCommand lk _ line _ (fun l q hs hq => ?_) h
  rw [List.mem_singleton] at hs
  repeat' split
  · exact K.report lk _ hq
  · exact K.report lk _ hq
  · exact K.injectSymbols lk line l _ hs hq

/-- RELEARN seeds the period estimate from the profile (R13, R43). -/
theorem Part.KeptByWrites.relearnCommand (lk : LinkId) (line : Byte) (h : I p) : I (p.relearnCommand lk line) := by
  refine K.lineCommand lk _ line _ (fun l q _ hq => K.report lk _ ?_) h
  unfold Part.relearn
  exact K.updLine l _ hq
    ⟨rfl, rfl, .inl rfl, fun hx => .inr ⟨hx, rfl⟩, .inr (.inr ⟨(q.line l).profile, rfl⟩)⟩

theorem Part.KeptByWrites.traceOnCommand (lk : LinkId) (line : Byte) (h : I p) : I (p.traceOnCommand lk line) := by
  refine K.lineCommand lk _ line _ (fun l q _ hq => ?_) h
  split
  · exact K.report lk _ hq
  · exact K.report lk _ (K.updLine l _ (K.setTraceSlot _ _ hq))
  · exact K.report lk _ hq

theorem Part.KeptByWrites.writeProfileCommand (lk : LinkId) (profile : Byte) (r : RawProfile) (h : I p) :
    I (p.writeProfileCommand lk profile r) := by
  refine Part.onLink_keeps I lk (fun q hq => ?_) h
  split
  · exact K.report lk _ hq
  · exact K.report lk _ (K.reportBoth _ (K.writeProfile _ r q hq))

theorem Part.KeptByWrites.writeConventionCommand (lk : LinkId) (convention : Byte) (es : Vector Byte 10) (h : I p) :
    I (p.writeConventionCommand lk convention es) := by
  refine Part.onLink_keeps I lk (fun q hq => ?_) h
  split
  · exact K.report lk _ hq
  · exact K.report lk _ (K.reportBoth _ (K.setConvention _ _ hq))

theorem Part.KeptByWrites.readSettingsCommand (lk : LinkId) (kind index : Byte) (h : I p) :
    I (p.readSettingsCommand lk kind index) := by
  refine Part.onLink_keeps I lk (fun q hq => ?_) h
  split
  · exact K.report lk _ hq
  · exact K.report lk _ hq

theorem Part.KeptByWrites.takeCommand (c : Instr) (h : I p) : I (p.takeCommand c) := by
  cases c with
  | audit lk ch => exact K.auditCommand lk ch h
  | enable lk l i => exact K.enableCommand lk l i h
  | disable lk l =>
    exact K.lineCommand lk _ l _ (fun m _ _ hq => K.report lk _ (K.leaveFor m _ _ _ (K.freeTrace m hq))) h
  | setProfile lk l i => exact K.setProfileCommand lk l i h
  | openGate lk l => exact K.lineCommand lk _ l _ (fun m _ _ hq => K.report lk _ (K.setGate lk m _ _ hq)) h
  | shutGate lk l => exact K.lineCommand lk _ l _ (fun m _ _ hq => K.report lk _ (K.setGate lk m _ _ hq)) h
  | converse lk l => exact K.lineCommand lk _ l _ (fun m _ _ hq => K.report lk _ (K.leaveFor m _ _ _ hq)) h
  | resume lk l => exact K.resumeCommand lk l h
  | park lk l => exact K.lineCommand lk _ l _ (fun m _ _ hq => K.report lk _ (K.leaveFor m _ _ _ hq)) h
  | restore lk l => exact K.restoreCommand lk l h
  | withdraw lk l => exact K.lineCommand lk _ l _ (fun m _ _ hq => K.report lk _ (K.withdraw lk m hq)) h
  | inject lk l xs => exact K.injectCommand lk l xs h
  | relearn lk l => exact K.relearnCommand lk l h
  | traceOn lk l => exact K.traceOnCommand lk l h
  | traceOff lk l =>
    exact Part.lineCommand_keeps I lk _ l (fun _ => K.report lk _)
      (fun m _ hq => K.report lk _ (K.freeTrace m hq)) h
  | queryLine lk l =>
    exact Part.lineCommand_keeps I lk _ l (fun _ => K.report lk _) (fun _ _ => K.report lk _) h
  | writeProfile lk i r => exact K.writeProfileCommand lk i r h
  | writeConvention lk i es => exact K.writeConventionCommand lk i es h
  | writeGlobals lk r =>
    exact Part.onLink_keeps I lk (fun q hq => K.report lk _ (K.reportBoth _ (K.writeGlobals r q hq))) h
  | readSettings lk k i => exact K.readSettingsCommand lk k i h
  | _ => exact h

/-! Time (chapter 09). -/

theorem Part.KeptByWrites.lockingTimeout (h : I p) : I p.lockingTimeout := by
  unfold Part.lockingTimeout
  dsimp only
  repeat' split
  · next hs =>
    exact K.reportBoth _ (K.setTimeBase _ (K.setTimeBase _ h) (.inr (by simp [Part.setTimeBase, hs])))
  · exact K.setTimeBase _ h
  · exact h

theorem Part.KeptByWrites.tickCore (h : I p) : I p.tickCore :=
  K.strobe _ (K.updLink .b _ (K.updLink .a _ (K.aside _ _ (Part.aside_tickLines _) (K.setTimeBase _ h))))

theorem Part.KeptByWrites.enterLocked (h : I p) : I p.enterLocked :=
  K.grantTest (K.reportBoth _ (K.setTimeBase _ h (.inl rfl)))

theorem Part.KeptByWrites.takeFrame (h : I p) : I p.takeFrame := by
  have hf := K.sendersTakeFrame p h
  unfold Part.takeFrame Part.countFrame
  dsimp only
  repeat' split
  · exact K.tickCore (K.setTimeBase _ (K.setTimeBase _ hf))
  · exact K.setTimeBase _ (K.setTimeBase _ hf)
  · exact K.enterLocked (K.setTimeBase _ hf)
  · exact K.setTimeBase _ (K.setTimeBase _ hf)
  · exact K.enterLocked (K.setTimeBase _ hf)
  · exact K.setTimeBase _ (K.setTimeBase _ hf)

/-- What every write keeps, every row keeps that keeps it when the watchdog expires: LOCKED is then left (R184). -/
theorem Part.KeptByWrites.keptByRows (hw : ∀ p, I p → I p.watchdogExpiry) : Part.KeptByRows I where
  confirmationStage l _ := K.confirmationStage l
  gapStage l _ := K.gapStage l
  clearStage l _ := K.clearStage l
  lockingTimeout _ := K.lockingTimeout
  dropWaiting lk _ := K.updLink lk _
  receiveError lk e _ := K.receiveError lk e
  takeCommand c _ := K.takeCommand c
  takeScanBytes bs _ := K.takeScanBytes bs
  classReview _ := K.classReview
  restExpiry l _ := K.restExpiry l
  seizeExpiry l _ := K.seizeExpiry l
  firstDigitExpiry l _ := K.firstDigitExpiry l
  partialExpiry l _ := K.partialExpiry l
  settleExpiry l _ := K.settleExpiry l
  longBreak lk _ := K.longBreak lk
  shortBreak lk _ := K.shortBreak lk
  returnToMarking lk _ := K.returnToMarking lk
  gapTimerExpiry lk _ := K.gapTimerExpiry lk
  auditExpiry lk _ := K.auditExpiry lk
  startSending lk _ _ := K.updLink lk _
  finishTransmission lk _ := K.updLink lk _
  takeCharacter lk _ _ _ _ := K.updLink lk _
  onPhaseEnd k _ := K.onPhaseEnd k
  toneOffEnd k _ := K.toneOffEnd k
  watchdogExpiry := hw
  setWatchdog _ _ := K.setTimeBase _
  tickCore _ := K.tickCore
  takeFrame _ := K.takeFrame
  atReset := K.atReset

/-- What is taken before the loss of the frame clock (R184). -/
theorem Part.KeptByWrites.beforeLoss (h : I p) : I p.settlePhases.settleExpiries := by
  have hp : I p.settlePhases := Part.forSenders_keeps I _ (fun k _ hq => K.toneOffEnd k (K.onPhaseEnd k hq)) p h
  have hl := Part.forLines_keeps I _ (fun l _ hq => K.settleExpiry l (K.partialExpiry l (K.firstDigitExpiry l
    (K.seizeExpiry l (K.restExpiry l hq))))) _ (K.classReview hp)
  have hk : ∀ lk (q : Part), I q → I (q.expireLink lk) :=
    fun lk q hq => K.auditExpiry lk (K.gapTimerExpiry lk (K.longBreak lk hq))
  exact hk .b _ (hk .a _ hl)

/-- What stands beside the time base is kept at the loss of the frame clock too (R113, R184). -/
theorem Part.KeptByWrites.watchdogExpiry (ht : ∀ f p, I p → I (p.setTimeBase f)) (h : I p) : I p.watchdogExpiry := by
  have hlose : ∀ q : Part, I q → I q.loseClock := by
    intro q hq
    refine K.reportBoth _ (Part.forSenders_keeps I _ (fun k _ => K.abortForLoss k) _ (K.tickCore ?_))
    exact ht _ _ (K.beforeLoss hq)
  unfold Part.watchdogExpiry
  split
  · exact h
  · exact h
  · exact hlose _ (ht _ _ h)
  · exact ht _ _ h

end
end Sys2Proof.Machine
end

section
/-!
PROOF. Period estimates and settings stay in their ranges (R37, R136, R137, R139): each write of `Part.KeptByWrites` keeps them.
-/
namespace Sys2Proof.Machine

/-! ### Period estimates (R37) -/

/-- A period estimate moves a quarter of the way to a pair from 55 to 160 ms, and so stays between the sixteenfold of these. -/
theorem adaptPeriod_bounds (pEst n : Nat) (hl : 880 ≤ pEst) (hm : pEst ≤ 2560) :
    880 ≤ adaptPeriod pEst n ∧ adaptPeriod pEst n ≤ 2560 := by
  unfold adaptPeriod
  split
  · next hn =>
    rcases Nat.le_total pEst (16 * n) with h | h
    · have e : (Int.ofNat (16 * n) - Int.ofNat pEst).tdiv 4 = Int.ofNat ((16 * n - pEst) / 4) := by
        rw [show Int.ofNat (16 * n) - Int.ofNat pEst = Int.ofNat (16 * n - pEst) by simp only [Int.ofNat_eq_natCast]; omega]
        rfl
      rw [e]
      simp only [Int.ofNat_eq_natCast]
      omega
    · have e : (Int.ofNat (16 * n) - Int.ofNat pEst).tdiv 4 = -Int.ofNat ((pEst - 16 * n) / 4) := by
        rw [show Int.ofNat (16 * n) - Int.ofNat pEst = -Int.ofNat (pEst - 16 * n) by simp only [Int.ofNat_eq_natCast]; omega,
          Int.neg_tdiv]
        rfl
      rw [e]
      simp only [Int.ofNat_eq_natCast]
      omega
  · exact ⟨hl, hm⟩

/-- Every period estimate and every nominal period is in range: `Part.periodsKept`, with its parts named. -/
structure Part.periodic (p : Part) : Prop where
  estimate : ∀ l, 880 ≤ (p.line l).decoder.pEst ∧ (p.line l).decoder.pEst ≤ 2560
  nominal : ∀ i, 55 ≤ (p.profile i).pNom ∧ (p.profile i).pNom ≤ 160

theorem Part.periodic_iff (p : Part) : p.periodic ↔ p.periodsKept := ⟨fun ⟨h, k⟩ => ⟨h, k⟩, fun ⟨h, k⟩ => ⟨h, k⟩⟩

theorem Part.periodic.source {p : Part} (h : p.periodic) {old new : Nat} (hs : p.periodSource old new)
    (ho : 880 ≤ old ∧ old ≤ 2560) : 880 ≤ new ∧ new ≤ 2560 := by
  rcases hs with rfl | ⟨n, rfl⟩ | ⟨i, rfl⟩
  · exact ho
  · exact adaptPeriod_bounds old n ho.1 ho.2
  · have := h.nominal i
    omega

/-- The pool keeps no period. -/
theorem Part.periodic.sameAside {p q : Part} (h : p.periodic) (k : p.sameAside q) : q.periodic := by
  refine ⟨fun l => ?_, fun i => ?_⟩
  · rw [Line.sameAside_decoder (k.line l)]
    exact h.estimate l
  · rw [Part.profile, k.profiles]
    exact h.nominal i

theorem Part.periodic.aside {p q : Part} (h : p.periodic) (k : p.aside q) : q.periodic := by
  refine ⟨fun l => h.source (k.line l).period (h.estimate l), fun i => ?_⟩
  rw [Part.profile, k.profiles]
  exact h.nominal i

theorem Part.requeue_sameAside (p : Part) (l : LineId) (cs : List Cell) (n : Nat) :
    p.sameAside { p.setLine l { p.line l with queue := cs } with free := n } :=
  Part.sameAside_trans (p.sameAside_setPool l (p.line l).sender (p.line l).runCount cs)
    (Part.sameAside_of_eq (p.setLine l _) _ rfl rfl rfl rfl rfl rfl rfl)

theorem Part.giveUpSender_sameAside (p : Part) (l : LineId) : p.sameAside (p.giveUpSender l) :=
  Part.sameAside_trans (p.abort_sameAside l) (Part.leaveGrantQueue_sameAside _ l)

theorem Part.continueBurst_sameAside (p : Part) (l : LineId) (k : SenderId) : p.sameAside (p.continueBurst l k) := by
  cases hq : (p.line l).queue with
  | nil => simpa only [Part.continueBurst, hq] using p.sameAside_refl
  | cons y rest =>
    rw [p.continueBurst_cons l k y rest hq]
    exact Part.sameAside_trans (p.sameAside_setPool l (p.line l).sender _ _)
      (Part.sameAside_of_eq (p.setLine l _) _ rfl rfl rfl rfl rfl rfl rfl)

/-- Entry to a state is one write of the line (R26, R49). -/
theorem Part.enterWithTimer_eq (p : Part) (l : LineId) (st : LineState) :
    p.enterWithTimer l st = p.setLine l { (p.line l).entered st with
      timer := st.timer.map (fun k => ⟨k, timerLength k (p.line l) (p.profileOfLine l)⟩) } := by
  cases h : st.timer with
  | none => rw [Part.enterWithTimer, h]; rfl
  | some k => rw [p.enterWithTimer_timed l st k h]; rfl

theorem Part.periodic.setLine {p : Part} (h : p.periodic) (l : LineId) (y : Line)
    (hy : y.decoder.pEst = (p.line l).decoder.pEst) : (p.setLine l y).periodic := by
  refine ⟨fun m => ?_, h.nominal⟩
  by_cases e : m = l
  · rw [e, Part.line_setLine_self, hy]
    exact h.estimate l
  · rw [Part.line_setLine_ne _ _ _ _ e]
    exact h.estimate m

theorem Part.periodic_keptByWrites : Part.KeptByWrites Part.periodic where
  aside _ _ k h := h.aside k
  requeue l cs n p _ h := h.sameAside (p.requeue_sameAside l cs n)
  grantOnce p h := h.sameAside p.grantOnce_sameAside
  join _ p _ h := h.sameAside (Part.sameAside_of_eq p _ rfl rfl rfl rfl rfl rfl rfl)
  leaveGrantQueue l p h := h.sameAside (p.leaveGrantQueue_sameAside l)
  freeSender l k p _ h := h.sameAside (p.freeSender_sameAside l k)
  leave l st p h := by
    have hq := (h.sameAside (p.giveUpSender_sameAside l)).sameAside (Part.flush_sameAside _ l)
    rw [Part.enterWithTimer_eq]
    exact hq.setLine l _ rfl
  continueBurst l k p _ _ h := h.sameAside (p.continueBurst_sameAside l k)
  toOff _ p _ h := h.sameAside (Part.sameAside_of_eq p _ rfl rfl rfl rfl rfl rfl rfl)
  dropSender _ p _ h := h.sameAside (Part.sameAside_of_eq p _ rfl rfl rfl rfl rfl rfl rfl)
  sendersTakeFrame p h := h.sameAside (Part.sameAside_of_eq p _ rfl rfl rfl rfl rfl rfl rfl)
  writeProfile i r p h := by
    refine ⟨h.estimate, fun j => ?_⟩
    by_cases e : j = i
    · rw [e, Part.profile_setProfile_self]
      exact clampTo_bounds 55 160 _ (by decide)
    · rw [Part.profile_setProfile_ne _ _ _ _ e]
      exact h.nominal j
  writeGlobals _ p h := ⟨h.estimate, h.nominal⟩
  atReset cause a b := by
    refine ⟨fun l => ?_, fun i => ?_⟩
    · rw [show (Part.atReset cause a b).line l = Line.atReset from Laws.get_replicate _ l]
      decide
    · rw [show (Part.atReset cause a b).profile i = Profile.default from Laws.get_replicate _ i]
      decide

/-! ### Settings (R136, R137, R139) -/

/-- A clamped profile record is in range; clear_time ranges from the stored flash_min, and commit to the stored T_on (R137). -/
theorem clampProfile_inRange (r : RawProfile) : (clampProfile r).inRange := by
  have hflash := clampTo_bounds 170 600 r.flashMin.toNat (by decide)
  have hon := clampTo_bounds 30 250 r.tOn.toNat (by decide)
  exact ⟨clampTo_bounds 55 160 _ (by decide), clampTo_bounds 8 127 _ (by decide), clampTo_bounds 20 200 _ (by decide),
    hflash, clampTo_bounds (clampTo 170 600 r.flashMin.toNat + 50) 2000 _ (by omega), clampTo_bounds 5 60 _ (by decide),
    clampTo_bounds 5 60 _ (by decide), clampTo_bounds 1 60 _ (by decide), clampTo_bounds 2 15 _ (by decide), hon,
    clampTo_bounds 30 250 _ (by decide), clampTo_bounds 10 _ _ (by omega), (clampTo_bounds 0 32767 _ (by decide)).2,
    (clampTo_bounds 0 32767 _ (by decide)).2⟩

/-- A clamped globals record is in range, audit_period rounded down to a multiple of 250 (R139). -/
theorem clampGlobals_inRange (r : RawGlobals) : (clampGlobals r).inRange := by
  have haudit := clampTo_bounds 250 8000 r.auditPeriod.toNat (by decide)
  have hround : (clampGlobals r).auditPeriod = clampTo 250 8000 r.auditPeriod.toNat / 250 * 250 := rfl
  refine ⟨?_, clampTo_bounds 1 16 _ (by decide), clampTo_bounds 1 32 _ (by decide)⟩
  rw [hround]
  omega

/-- Every settings record is in range: `Part.settingsKept`, with its parts named. -/
structure Part.settingsInRange (p : Part) : Prop where
  profile : ∀ i, (p.profile i).inRange
  globals : p.globals.inRange

theorem Part.settingsInRange_iff (p : Part) : p.settingsInRange ↔ p.settingsKept :=
  ⟨fun ⟨h, k⟩ => ⟨h, k⟩, fun ⟨h, k⟩ => ⟨h, k⟩⟩

theorem Part.settingsInRange.of_eq {p q : Part} (h : p.settingsInRange) (hp : q.profiles = p.profiles)
    (hg : q.globals = p.globals) : q.settingsInRange := by
  refine ⟨fun i => ?_, by rw [hg]; exact h.globals⟩
  rw [Part.profile, hp]
  exact h.profile i

/-- The pool keeps no settings. -/
theorem Part.settingsInRange.sameAside {p q : Part} (h : p.settingsInRange) (k : p.sameAside q) : q.settingsInRange :=
  h.of_eq k.profiles k.globals

theorem Part.settingsInRange_keptByWrites : Part.KeptByWrites Part.settingsInRange where
  aside _ _ k h := h.of_eq k.profiles k.globals
  requeue _ _ _ _ _ h := h.of_eq rfl rfl
  grantOnce p h := h.sameAside p.grantOnce_sameAside
  join _ _ _ h := h.of_eq rfl rfl
  leaveGrantQueue _ _ h := h.of_eq rfl rfl
  freeSender _ _ _ _ h := h.of_eq rfl rfl
  leave l st p h := by
    have hq := (h.sameAside (p.giveUpSender_sameAside l)).sameAside (Part.flush_sameAside _ l)
    rw [Part.enterWithTimer_eq]
    exact hq.of_eq rfl rfl
  continueBurst l k p _ _ h := h.sameAside (p.continueBurst_sameAside l k)
  toOff _ _ _ h := h.of_eq rfl rfl
  dropSender _ _ _ h := h.of_eq rfl rfl
  sendersTakeFrame _ h := h.of_eq rfl rfl
  writeProfile i r p h := by
    refine ⟨fun j => ?_, h.globals⟩
    by_cases e : j = i
    · rw [e, Part.profile_setProfile_self]
      exact clampProfile_inRange r
    · rw [Part.profile_setProfile_ne _ _ _ _ e]
      exact h.profile j
  writeGlobals r _ h := ⟨h.profile, clampGlobals_inRange r⟩
  atReset cause a b := by
    refine ⟨fun i => ?_, show Globals.default.inRange by decide⟩
    rw [show (Part.atReset cause a b).profile i = Profile.default from Laws.get_replicate _ i]
    decide

/-- Settles O56: a period is adapted within its range or seeded from a nominal period, and a record is stored clamped. -/
theorem periodsAndSettingsStayInRange : Obligations.PeriodsAndSettingsStayInRange := by
  unfold Obligations.PeriodsAndSettingsStayInRange
  rw [← show Part.periodic = Part.periodsKept from funext fun p => propext p.periodic_iff,
    ← show Part.settingsInRange = Part.settingsKept from funext fun p => propext p.settingsInRange_iff]
  exact ⟨keptByEveryStep_of_rows (Part.periodic_keptByWrites.keptByRows
      (fun _ => Part.periodic_keptByWrites.watchdogExpiry (fun _ _ h => ⟨h.estimate, h.nominal⟩))),
    keptByEveryStep_of_rows (Part.settingsInRange_keptByWrites.keptByRows
      (fun _ => Part.settingsInRange_keptByWrites.watchdogExpiry (fun _ _ h => ⟨h.profile, h.globals⟩)))⟩

end Sys2Proof.Machine
end

section
/-!
PROOF. Only ACTIVE lines hold cells or senders, and lines and senders name each other (R49, R59, R93, R94, R96, R112): each
write of `Part.KeptByWrites` keeps this, and the loss of the frame clock leaves every sender FREE.
-/
set_option Elab.async false

namespace Sys2Proof.Machine

/-! ### Lines, cells and the grant queue -/

/-- `Part.supervisionKept`, with its parts named. -/
structure Part.orderly (p : Part) : Prop where
  vacant : p.vacantOutsideActive
  waiting : ∀ l ∈ p.grantQueue, (p.line l).sender = none
  nodup : p.grantQueue.Nodup
  settling : ∀ l, (p.line l).settling → (p.line l).state = .quarantine

theorem Part.orderly_iff (p : Part) : p.orderly ↔ p.supervisionKept :=
  ⟨fun ⟨h1, h2, h3, h4⟩ => ⟨h1, h2, h3, h4⟩, fun ⟨h1, h2, h3, h4⟩ => ⟨h1, h2, h3, h4⟩⟩

/-- One round of the grant test grants a FREE sender to the line that leaves the grant queue, or takes a line without cells
off it, or does nothing (R98, R99). -/
theorem Part.grantOnce_writes (p : Part) : p.grantOnce = p ∨ ∃ l rest, p.timeBase.state = .locked ∧ p.grantQueue = l :: rest
    ∧ (p.grantOnce = { p with grantQueue := rest } ∨ ∃ (k : SenderId) (y : Cell) (cells : List Cell), (p.sender k).state = .free
      ∧ p.grantOnce = (({ p with grantQueue := rest } : Part).setLine l { p.line l with
        sender := some k, runCount := 1, queue := { y with sending := true } :: cells }).setSender k
          (burstStart l y.symbol (p.profileOfLine l).capture)) := by
  rcases p.grantOnce_cases with ⟨l, rest, k, hs, hg, hk, e⟩ | e
  · refine .inr ⟨l, rest, hs, hg, ?_⟩
    cases hq : (p.line l).queue with
    | nil =>
      left
      rw [e, Part.grant]
      change (match (p.line l).queue with | [] => _ | _ :: _ => _) = _
      simp only [hq]
    | cons y cells =>
      have hfree := List.find?_some hk
      exact .inr ⟨k, y, cells, of_decide_eq_true hfree, by
        rw [e, Part.grant_cons ({ p with grantQueue := rest } : Part) l k y cells hq]; rfl⟩
  · exact .inl e

/-- What holds of every line and of the record written holds of every line after the write. -/
theorem Part.forall_line_setLine (p : Part) (l : LineId) (y : Line) (P : LineId → Line → Prop) (hy : P l y)
    (h : ∀ m, P m (p.line m)) (m : LineId) : P m ((p.setLine l y).line m) := by
  by_cases e : m = l
  · rw [e, Part.line_setLine_self]
    exact hy
  · rw [Part.line_setLine_ne _ _ _ _ e]
    exact h m

theorem Part.forall_sender_setSender (p : Part) (k : SenderId) (x : Sender) (P : SenderId → Sender → Prop) (hx : P k x)
    (h : ∀ j, P j (p.sender j)) (j : SenderId) : P j ((p.setSender k x).sender j) := by
  by_cases e : j = k
  · rw [e, Part.sender_setSender_self]
    exact hx
  · rw [Part.sender_setSender_ne _ _ _ _ e]
    exact h j

theorem LineState.timer_settle {st : LineState} (h : st.timer = some .settle) : st = .quarantine := by
  revert h
  cases st <;> rintro ⟨⟩
  rfl

section
variable {p : Part} (h : p.orderly)
include h

/-- A line that waits in the grant queue is ACTIVE. -/
theorem Part.orderly.active_of_mem {l : LineId} (hl : l ∈ p.grantQueue) : (p.line l).state = .active := by
  by_contra hs
  exact (h.vacant l hs).2.2 hl

theorem Part.orderly.active_of_queue {l : LineId} (hq : (p.line l).queue ≠ []) : (p.line l).state = .active := by
  by_contra hs
  exact hq (h.vacant l hs).1

/-- What touches neither lines nor grant queue. -/
theorem Part.orderly.beside {q : Part} (hl : q.lines = p.lines) (hg : q.grantQueue = p.grantQueue) : q.orderly := by
  have e : ∀ l, q.line l = p.line l := fun l => by simp only [Part.line, hl]
  refine ⟨fun l hs => ?_, fun l hm => ?_, by rw [hg]; exact h.nodup, fun l hx => ?_⟩
  · rw [e] at hs
    rw [Part.vacant, e, hg]
    exact h.vacant l hs
  · rw [e]
    exact h.waiting l (hg ▸ hm)
  · rw [e] at hx ⊢
    exact h.settling l hx

/-- A line written anew, with its place in the grant queue. -/
theorem Part.orderly.setLine (l : LineId) (y : Line)
    (hv : y.state ≠ .active → y.queue = [] ∧ y.sender = none ∧ l ∉ p.grantQueue)
    (hw : l ∈ p.grantQueue → y.sender = none) (ht : y.settling → y.state = .quarantine) : (p.setLine l y).orderly := by
  exact ⟨p.forall_line_setLine l y (fun m z => z.state ≠ .active → z.queue = [] ∧ z.sender = none ∧ m ∉ p.grantQueue) hv
      h.vacant,
    p.forall_line_setLine l y (fun m z => m ∈ p.grantQueue → z.sender = none) hw h.waiting, h.nodup,
    p.forall_line_setLine l y (fun _ z => z.settling → z.state = .quarantine) ht h.settling⟩

/-- Lines leave the grant queue. -/
theorem Part.orderly.sublist {g : List LineId} (hg : g.Sublist p.grantQueue) :
    ({ p with grantQueue := g } : Part).orderly := by
  refine ⟨fun l hs => ?_, fun l hm => h.waiting l (hg.subset hm), h.nodup.sublist hg, h.settling⟩
  obtain ⟨hq, hn, hl⟩ := h.vacant l hs
  exact ⟨hq, hn, fun hm => hl (hg.subset hm)⟩

theorem Part.orderly.aside {q : Part} (k : p.aside q) : q.orderly := by
  have hgone : ∀ l, (q.line l).state ≠ .active → (p.line l).state ≠ .active := by
    intro l hs
    rcases (k.line l).state with e | e | e | e
    · rwa [e] at hs
    · exact absurd e hs
    · exact e
    · rw [h.settling l e]
      decide
  refine ⟨fun l hs => ?_, fun l hm => ?_, by rw [k.grantQueue]; exact h.nodup, fun l hx => ?_⟩
  · obtain ⟨hq, hn, hl⟩ := h.vacant l (hgone l hs)
    exact ⟨(k.line l).queue.trans hq, (k.line l).sender.trans hn, by rwa [k.grantQueue]⟩
  · exact (k.line l).sender.trans (h.waiting l (k.grantQueue ▸ hm))
  · rcases (k.line l).timer hx with e | ⟨e, hs⟩
    · exact e
    · exact hs.trans (h.settling l e)

/-- Cells leave a queue, or change in one whose line may hold them. -/
theorem Part.orderly.requeue (l : LineId) (cs : List Cell) (n : Nat)
    (hc : cs = [] ∨ (p.line l).queue ≠ [] ∨ (p.line l).state = .active) :
    ({ p.setLine l { p.line l with queue := cs } with free := n } : Part).orderly := by
  refine Part.orderly.beside (h.setLine l { p.line l with queue := cs } (fun hs => ?_) (h.waiting l) (h.settling l)) rfl rfl
  obtain ⟨hq, hn, hl⟩ := h.vacant l hs
  refine ⟨?_, hn, hl⟩
  rcases hc with e | e | e
  · exact e
  · exact absurd hq e
  · exact absurd e hs

theorem Part.orderly.grantOnce : p.grantOnce.orderly := by
  rcases p.grantOnce_writes with e | ⟨l, rest, -, hg, e | ⟨k, y, cells, -, e⟩⟩ <;> rw [e]
  · exact h
  · exact h.sublist (hg ▸ List.sublist_cons_self l rest)
  · have hl : (p.line l).state = .active := h.active_of_mem (hg ▸ List.mem_cons_self)
    have hn : l ∉ rest := (List.nodup_cons.1 (hg ▸ h.nodup)).1
    have hr : ({ p with grantQueue := rest } : Part).orderly := h.sublist (hg ▸ List.sublist_cons_self l rest)
    exact Part.orderly.beside (hr.setLine l { p.line l with
      sender := some k, runCount := 1, queue := { y with sending := true } :: cells }
      (fun hs => absurd hl hs) (fun hm => absurd hm hn) (h.settling l)) rfl rfl

theorem Part.orderly.join (l : LineId) (he : p.eligible l = true) :
    ({ p with grantQueue := p.grantQueue ++ [l] } : Part).orderly := by
  obtain ⟨hs, hn, hl⟩ := (p.eligible_iff l).1 he
  obtain ⟨hs, -⟩ := (p.line l).canSend_iff.1 hs
  refine ⟨fun m hm => ?_, fun m hm => ?_, ?_, h.settling⟩
  · obtain ⟨h1, h2, h3⟩ := h.vacant m hm
    refine ⟨h1, h2, fun hin => ?_⟩
    rcases List.mem_append.1 hin with hin | hin
    · exact h3 hin
    · rw [List.mem_singleton.1 hin] at hm
      exact hm hs
  · rcases List.mem_append.1 hm with hm | hm
    · exact h.waiting m hm
    · rw [List.mem_singleton.1 hm]
      exact hn
  · exact List.nodup_append.2 ⟨h.nodup, List.nodup_singleton l, fun a ha b hb => by
      rw [List.mem_singleton.1 hb]
      exact fun e => hl (e ▸ ha)⟩

theorem Part.orderly.leaveGrantQueue (l : LineId) : (p.leaveGrantQueue l).orderly := h.sublist List.filter_sublist

theorem Part.orderly.freeSender (l : LineId) (k : SenderId) : (p.freeSender l k).orderly := by
  refine Part.orderly.beside (h.setLine l { p.line l with sender := none, runCount := 0 } (fun hs => ?_) (fun _ => rfl)
    (h.settling l)) rfl rfl
  obtain ⟨hq, -, hl⟩ := h.vacant l hs
  exact ⟨hq, rfl, hl⟩

theorem Part.orderly.continueBurst (l : LineId) (k : SenderId) : (p.continueBurst l k).orderly := by
  cases hq : (p.line l).queue with
  | nil => simpa only [Part.continueBurst, hq] using h
  | cons y rest =>
    rw [p.continueBurst_cons l k y rest hq]
    exact Part.orderly.beside (h.setLine l { p.line l with
      runCount := min 16 ((p.line l).runCount + 1), queue := { y with sending := true } :: rest }
      (fun hs => absurd (h.active_of_queue (by simp [hq])) hs) (h.waiting l) (h.settling l)) rfl rfl

end

theorem Part.orderly_keptByPool : Part.KeptByPool Part.orderly where
  aside _ _ k h := h.aside k
  requeue l cs n _ hc h := h.requeue l cs n hc
  grantOnce _ h := h.grantOnce
  join l _ he h := h.join l he
  leaveGrantQueue l _ h := h.leaveGrantQueue l
  freeSender l k _ _ h := h.freeSender l k

/-! ### The leaving of a state (R59) -/

/-- A line outside the grant queue is granted nothing (R98). -/
theorem Part.grantTest_passes (p : Part) (l : LineId) (hn : (p.line l).sender = none) (hg : l ∉ p.grantQueue) :
    (p.grantTest.line l).sender = none := by
  refine (Part.grantTest_keeps (fun q => (q.line l).sender = none ∧ l ∉ q.grantQueue) (fun q ⟨hs, hl⟩ => ?_) p
    ⟨hn, hg⟩).1
  rcases q.grantOnce_writes with e | ⟨m, rest, -, hq, hm⟩
  · rw [e]
    exact ⟨hs, hl⟩
  · rw [hq, List.mem_cons, not_or] at hl
    rcases hm with e | ⟨k, y, cells, -, e⟩ <;> rw [e]
    · exact ⟨hs, hl.2⟩
    · refine ⟨?_, hl.2⟩
      rw [Part.line_setSender, Part.line_setLine_ne _ _ _ _ hl.1]
      exact hs

theorem Part.abortOnly_grantQueue (p : Part) (l : LineId) : (p.abortOnly l).grantQueue = p.grantQueue := by
  unfold Part.abortOnly Part.abortCell Part.commit Part.restoreHead
  repeat' split
  all_goals simp [Part.freeSender]

/-- After steps 3 to 5 of R59 the line is vacant: it has lost its sender, its place in the grant queue and its cells. -/
theorem Part.orderly.left {p : Part} (h : p.orderly) (l : LineId) : ((p.giveUpSender l).flush l).vacant l := by
  have hsender : ((p.giveUpSender l).line l).sender = none := by
    rw [Part.giveUpSender, Part.line_leaveGrantQueue]
    cases hk : (p.line l).sender with
    | none => simp only [Part.abort, hk]
    | some k =>
      have hl : l ∉ p.grantQueue := fun hm => by simp [h.waiting l hm] at hk
      rw [p.abort_held l k hk]
      refine Part.grantTest_passes _ l ?_ ?_
      · rw [Part.freeSender, Part.line_setSender, Part.line_setLine_self]
      · have hg := p.abortOnly_grantQueue l
        simp only [Part.abortOnly, hk] at hg
        rwa [hg]
  have hflush : ((p.giveUpSender l).flush l).line l = { (p.giveUpSender l).line l with queue := [] } :=
    Part.line_setLine_self (p.giveUpSender l) l _
  refine ⟨by rw [hflush], by rw [hflush]; exact hsender, fun hm => ?_⟩
  obtain ⟨-, hne⟩ := List.mem_filter.1 hm
  exact of_decide_eq_true hne rfl

theorem Part.orderly.leave {p : Part} (h : p.orderly) (l : LineId) (st : LineState) :
    (((p.giveUpSender l).flush l).enterWithTimer l st).orderly := by
  have hq : ((p.giveUpSender l).flush l).orderly := Part.orderly_keptByPool.flush l (Part.orderly_keptByPool.giveUpSender l h)
  have hv := h.left l
  rw [Part.enterWithTimer_eq]
  refine hq.setLine l _ (fun _ => hv) (fun _ => hv.2.1) (fun ht => ?_)
  rw [Line.settling, Option.map_map, show Timer.kind ∘ _ = id from rfl, Option.map_id] at ht
  exact LineState.timer_settle ht

theorem Part.orderly_keptByWrites : Part.KeptByWrites Part.orderly where
  toKeptByPool := Part.orderly_keptByPool
  leave l st _ h := h.leave l st
  continueBurst l k _ _ _ h := h.continueBurst l k
  toOff _ _ _ h := h.beside rfl rfl
  dropSender _ _ _ h := h.beside rfl rfl
  sendersTakeFrame _ h := h.beside rfl rfl
  writeProfile _ _ _ h := h.beside rfl rfl
  writeGlobals _ _ h := h.beside rfl rfl
  atReset cause a b := by
    refine ⟨fun l _ => ?_, fun l hm => absurd hm List.not_mem_nil, List.nodup_nil, fun l hx => ?_⟩
    · rw [Part.vacant, Part.line_atReset]
      exact ⟨rfl, rfl, List.not_mem_nil⟩
    · rw [Part.line_atReset] at hx
      cases hx

/-! ### Lines and senders -/

/-- What `Part.sendersKept` says of lines and senders, in any state of the time base. -/
structure Part.paired (p : Part) : Prop where
  named : ∀ l k, (p.line l).sender = some k ↔ (p.sender k).line = some l
  free_iff : ∀ k, (p.sender k).state = .free ↔ (p.sender k).line = none
  freed : ∀ k, (p.sender k).state = .free → p.sender k = Sender.freed

section
variable {p : Part} (h : p.paired)
include h

theorem Part.paired.of_eq {q : Part} (hl : ∀ l, (q.line l).sender = (p.line l).sender) (hk : q.senders = p.senders) :
    q.paired := by
  have e : ∀ k, q.sender k = p.sender k := fun k => by simp only [Part.sender, hk]
  exact ⟨fun l k => by rw [hl, e]; exact h.named l k, fun k => by rw [e]; exact h.free_iff k,
    fun k hk => by rw [e] at hk ⊢; exact h.freed k hk⟩

theorem Part.paired.setLine (l : LineId) (y : Line) (hy : y.sender = (p.line l).sender) : (p.setLine l y).paired := by
  refine h.of_eq (fun m => ?_) rfl
  by_cases e : m = l
  · rw [e, Part.line_setLine_self, hy]
  · rw [Part.line_setLine_ne _ _ _ _ e]

/-- A sender that keeps its line. -/
theorem Part.paired.setSender (k : SenderId) (x : Sender) (hl : x.line = (p.sender k).line)
    (hs : x.state = .free ↔ (p.sender k).state = .free) (hf : x.state = .free → x = Sender.freed) :
    (p.setSender k x).paired := by
  exact ⟨fun l => p.forall_sender_setSender k x (fun j z => (p.line l).sender = some j ↔ z.line = some l)
      (by rw [hl]; exact h.named l k) (h.named l),
    p.forall_sender_setSender k x (fun _ z => z.state = .free ↔ z.line = none) (by rw [hs, hl]; exact h.free_iff k) h.free_iff,
    p.forall_sender_setSender k x (fun _ z => z.state = .free → z = Sender.freed) hf h.freed⟩

/-- A FREE sender is given to a line that holds none (R99). -/
theorem Part.paired.assign (l : LineId) (k : SenderId) (y : Line) (x : Sender) (hl : (p.line l).sender = none)
    (hk : (p.sender k).state = .free) (hy : y.sender = some k) (hx : x.line = some l) (hs : x.state ≠ .free) :
    ((p.setLine l y).setSender k x).paired := by
  have hn := (h.free_iff k).1 hk
  refine ⟨fun m j => ?_, fun j => ?_, fun j hj => ?_⟩
  · rw [Part.line_setSender]
    by_cases em : m = l <;> by_cases ej : j = k
    · subst em ej
      simp [hy, hx]
    · subst em
      have hline := h.named m j
      rw [hl] at hline
      simp only [Part.line_setLine_self, hy, Part.sender_setSender_ne _ _ _ _ ej, Part.sender_setLine, ← hline,
        Option.some.injEq, reduceCtorEq, iff_false]
      exact fun e => ej e.symm
    · subst ej
      have hline := h.named m j
      rw [hn] at hline
      simp only [Part.line_setLine_ne _ _ _ _ em, Part.sender_setSender_self, hx, hline, Option.some.injEq, reduceCtorEq,
        false_iff]
      exact fun e => em e.symm
    · rw [Part.line_setLine_ne _ _ _ _ em, Part.sender_setSender_ne _ _ _ _ ej]
      exact h.named m j
  · by_cases ej : j = k
    · subst ej
      simp [hs, hx]
    · rw [Part.sender_setSender_ne _ _ _ _ ej]
      exact h.free_iff j
  · by_cases ej : j = k
    · subst ej
      rw [Part.sender_setSender_self] at hj
      exact absurd hj hs
    · rw [Part.sender_setSender_ne _ _ _ _ ej] at hj ⊢
      exact h.freed j hj

/-- A line gives up its sender, which becomes FREE (R93, R94). -/
theorem Part.paired.freeSender (l : LineId) (k : SenderId) (hk : (p.sender k).line = some l) :
    (p.freeSender l k).paired := by
  have hheld : (p.line l).sender = some k := (h.named l k).2 hk
  unfold Part.freeSender
  refine ⟨fun m j => ?_, fun j => ?_, fun j hj => ?_⟩
  · rw [Part.line_setSender]
    by_cases em : m = l <;> by_cases ej : j = k
    · subst em ej
      simp [Sender.freed]
    · subst em
      have hline := h.named m j
      rw [hheld] at hline
      simp only [Part.line_setLine_self, Part.sender_setSender_ne _ _ _ _ ej, Part.sender_setLine, ← hline,
        Option.some.injEq, reduceCtorEq, false_iff]
      exact fun e => ej e.symm
    · subst ej
      have hline := h.named m j
      rw [hk] at hline
      simp only [Part.line_setLine_ne _ _ _ _ em, Part.sender_setSender_self, Sender.freed, hline, Option.some.injEq,
        reduceCtorEq, iff_false]
      exact fun e => em e.symm
    · rw [Part.line_setLine_ne _ _ _ _ em, Part.sender_setSender_ne _ _ _ _ ej]
      exact h.named m j
  · by_cases ej : j = k
    · subst ej
      simp [Sender.freed]
    · rw [Part.sender_setSender_ne _ _ _ _ ej]
      exact h.free_iff j
  · by_cases ej : j = k
    · subst ej
      rw [Part.sender_setSender_self]
    · rw [Part.sender_setSender_ne _ _ _ _ ej] at hj ⊢
      exact h.freed j hj

theorem Part.paired.continueBurst (l : LineId) (k : SenderId) (hk : (p.sender k).line = some l)
    (hs : (p.sender k).state ≠ .free) : (p.continueBurst l k).paired := by
  cases hq : (p.line l).queue with
  | nil => simpa only [Part.continueBurst, hq] using h
  | cons y rest =>
    rw [p.continueBurst_cons l k y rest hq]
    have hl := h.setLine l { p.line l with
      runCount := min 16 ((p.line l).runCount + 1), queue := { y with sending := true } :: rest } rfl
    refine hl.setSender k _ hk.symm ⟨fun e => ?_, fun e => absurd e hs⟩ (fun e => ?_)
    all_goals cases e

end

theorem Sender.takeFrame_line (x : Sender) : x.takeFrame.line = x.line := by
  unfold Sender.takeFrame
  split <;> rfl

theorem Sender.takeFrame_state (x : Sender) : x.takeFrame.state = x.state := by
  unfold Sender.takeFrame
  split <;> rfl

theorem Part.sender_sendersTakeFrame (p : Part) (k : SenderId) : p.sendersTakeFrame.sender k = (p.sender k).takeFrame :=
  Laws.get_ofFn _ k

theorem Part.paired.sendersTakeFrame {p : Part} (h : p.paired) : p.sendersTakeFrame.paired := by
  refine ⟨fun l k => ?_, fun k => ?_, fun k hk => ?_⟩
  · rw [Part.sender_sendersTakeFrame, Sender.takeFrame_line]
    exact h.named l k
  · rw [Part.sender_sendersTakeFrame, Sender.takeFrame_line, Sender.takeFrame_state]
    exact h.free_iff k
  · rw [Part.sender_sendersTakeFrame, Sender.takeFrame_state] at hk
    rw [Part.sender_sendersTakeFrame, Sender.takeFrame_free _ hk]
    exact h.freed k hk

/-- Good order and pairing together: a grant rests on both. -/
def Part.orderlyPairs (p : Part) : Prop := p.orderly ∧ p.paired

theorem Part.orderlyPairs_keptByPool : Part.KeptByPool Part.orderlyPairs where
  aside _ _ k h := ⟨h.1.aside k, h.2.of_eq (fun l => (k.line l).sender) k.senders⟩
  requeue l cs n p hc h :=
    ⟨h.1.requeue l cs n hc, Part.paired.of_eq (h.2.setLine l { p.line l with queue := cs } rfl) (fun _ => rfl) rfl⟩
  grantOnce p h := by
    refine ⟨h.1.grantOnce, ?_⟩
    rcases p.grantOnce_writes with e | ⟨l, rest, -, hg, e | ⟨k, y, cells, hk, e⟩⟩ <;> rw [e]
    · exact h.2
    · exact h.2.of_eq (fun _ => rfl) rfl
    · have hr : ({ p with grantQueue := rest } : Part).paired := h.2.of_eq (fun _ => rfl) rfl
      exact hr.assign l k _ _ (h.1.waiting l (hg ▸ List.mem_cons_self)) hk rfl rfl (by simp [burstStart])
  join l _ he h := ⟨h.1.join l he, h.2.of_eq (fun _ => rfl) rfl⟩
  leaveGrantQueue l _ h := ⟨h.1.leaveGrantQueue l, h.2.of_eq (fun _ => rfl) rfl⟩
  freeSender l k _ hk h := ⟨h.1.freeSender l k, h.2.freeSender l k (hk.elim (h.2.named l k).1 id)⟩

theorem Part.orderlyPairs_keptByWrites : Part.KeptByWrites Part.orderlyPairs where
  toKeptByPool := Part.orderlyPairs_keptByPool
  leave l st p h := by
    have hq := Part.orderlyPairs_keptByPool.flush l (Part.orderlyPairs_keptByPool.giveUpSender l h)
    refine ⟨h.1.leave l st, ?_⟩
    rw [Part.enterWithTimer_eq]
    exact hq.2.setLine l _ rfl
  continueBurst l k _ hk hs h := ⟨h.1.continueBurst l k, h.2.continueBurst l k hk hs⟩
  toOff k p hs h := by
    refine ⟨h.1.beside rfl rfl, h.2.setSender k _ rfl ⟨fun e => ?_, fun e => ?_⟩ (fun e => ?_)⟩
    · cases e
    · rw [hs] at e
      cases e
    · cases e
  dropSender k p hk h := by
    have hs := (h.2.free_iff k).2 hk
    refine ⟨h.1.beside rfl rfl, h.2.setSender k _ hk.symm ⟨fun _ => hs, fun _ => rfl⟩ (fun _ => rfl)⟩
  sendersTakeFrame _ h := ⟨h.1.beside rfl rfl, h.2.sendersTakeFrame⟩
  writeProfile _ _ _ h := ⟨h.1.beside rfl rfl, h.2.of_eq (fun _ => rfl) rfl⟩
  writeGlobals _ _ h := ⟨h.1.beside rfl rfl, h.2.of_eq (fun _ => rfl) rfl⟩
  atReset cause a b := by
    refine ⟨Part.orderly_keptByWrites.atReset cause a b, fun l k => ?_, fun k => ?_, fun k _ => ?_⟩
    · rw [Part.line_atReset, Part.sender_atReset]
      simp [Line.atReset, Sender.freed]
    · rw [Part.sender_atReset]
      decide
    · rw [Part.sender_atReset]

/-! ### Senders outside LOCKED (R112) -/

/-- Outside LOCKED every sender is FREE. -/
def Part.idleUnlocked (p : Part) : Prop := p.timeBase.state ≠ .locked → ∀ k, (p.sender k).state = .free

section
variable {p : Part} (h : p.idleUnlocked)
include h

theorem Part.idleUnlocked.of_eq {q : Part} (ht : q.timeBase.state = .locked ∨ p.timeBase.state ≠ .locked)
    (hk : q.senders = p.senders) : q.idleUnlocked := by
  intro hu k
  rw [Part.sender, hk]
  exact h (ht.resolve_left hu) k

/-- A sender is written while LOCKED, or as FREE. -/
theorem Part.idleUnlocked.setSender (k : SenderId) (x : Sender) (hx : p.timeBase.state = .locked ∨ x.state = .free) :
    (p.setSender k x).idleUnlocked := by
  intro hu j
  by_cases e : j = k
  · rw [e, Part.sender_setSender_self]
    exact hx.resolve_left hu
  · rw [Part.sender_setSender_ne _ _ _ _ e]
    exact h hu j

/-- A sender that is not FREE plays in LOCKED. -/
theorem Part.idleUnlocked.locked_of_busy {k : SenderId} (hk : (p.sender k).state ≠ .free) :
    p.timeBase.state = .locked := by
  by_contra hu
  exact hk (h hu k)

theorem Part.idleUnlocked.continueBurst (l : LineId) (k : SenderId) (hs : (p.sender k).state ≠ .free) :
    (p.continueBurst l k).idleUnlocked := by
  cases hq : (p.line l).queue with
  | nil => simpa only [Part.continueBurst, hq] using h
  | cons y rest =>
    rw [p.continueBurst_cons l k y rest hq]
    exact Part.idleUnlocked.setSender (h.of_eq (TimeBaseState.kept rfl) rfl) k _ (.inl (h.locked_of_busy hs))

end

theorem Part.idleUnlocked_keptByPool : Part.KeptByPool Part.idleUnlocked where
  aside _ _ k h := h.of_eq k.timeBase k.senders
  requeue _ _ _ p _ h := h.of_eq (p := p) (TimeBaseState.kept rfl) rfl
  grantOnce p h := by
    intro hu
    rw [p.grantOnce_sameAside.timeBase] at hu
    rw [p.grantOnce_idle (.inl hu)]
    exact h hu
  join _ p _ h := h.of_eq (p := p) (TimeBaseState.kept rfl) rfl
  leaveGrantQueue _ p h := h.of_eq (p := p) (TimeBaseState.kept rfl) rfl
  freeSender l k p _ h := Part.idleUnlocked.setSender (p := p.setLine l _)
    (h.of_eq (p := p) (TimeBaseState.kept rfl) rfl) k _ (.inr rfl)

theorem Part.idleUnlocked_keptByWrites : Part.KeptByWrites Part.idleUnlocked where
  toKeptByPool := Part.idleUnlocked_keptByPool
  leave l st p h := by
    have hq := Part.idleUnlocked_keptByPool.flush l (Part.idleUnlocked_keptByPool.giveUpSender l h)
    rw [Part.enterWithTimer_eq]
    exact hq.of_eq (TimeBaseState.kept rfl) rfl
  continueBurst l k _ _ hs h := h.continueBurst l k hs
  toOff k p hs h := h.setSender k _ (.inl (h.locked_of_busy (k := k) (by simp [hs])))
  dropSender k _ _ h := h.setSender k _ (.inr rfl)
  sendersTakeFrame p h := by
    intro hu k
    rw [Part.sender_sendersTakeFrame, Sender.takeFrame_state]
    exact h hu k
  writeProfile _ _ p h := h.of_eq (p := p) (TimeBaseState.kept rfl) rfl
  writeGlobals _ p h := h.of_eq (p := p) (TimeBaseState.kept rfl) rfl
  atReset cause a b := by
    intro _ k
    rw [Part.sender_atReset]
    rfl

/-- What each of two predicates is kept by, both are kept by. -/
theorem Part.KeptByWrites.and {I J : Part → Prop} (K : Part.KeptByWrites I) (M : Part.KeptByWrites J) :
    Part.KeptByWrites (fun p => I p ∧ J p) where
  aside p q k := And.imp (K.aside p q k) (M.aside p q k)
  requeue l cs n p hc := And.imp (K.requeue l cs n p hc) (M.requeue l cs n p hc)
  grantOnce p := And.imp (K.grantOnce p) (M.grantOnce p)
  join l p he := And.imp (K.join l p he) (M.join l p he)
  leaveGrantQueue l p := And.imp (K.leaveGrantQueue l p) (M.leaveGrantQueue l p)
  freeSender l k p hk := And.imp (K.freeSender l k p hk) (M.freeSender l k p hk)
  leave l st p := And.imp (K.leave l st p) (M.leave l st p)
  continueBurst l k p hk hs := And.imp (K.continueBurst l k p hk hs) (M.continueBurst l k p hk hs)
  toOff k p hs := And.imp (K.toOff k p hs) (M.toOff k p hs)
  dropSender k p hk := And.imp (K.dropSender k p hk) (M.dropSender k p hk)
  sendersTakeFrame p := And.imp (K.sendersTakeFrame p) (M.sendersTakeFrame p)
  writeProfile i r p := And.imp (K.writeProfile i r p) (M.writeProfile i r p)
  writeGlobals r p := And.imp (K.writeGlobals r p) (M.writeGlobals r p)
  atReset cause a b := ⟨K.atReset cause a b, M.atReset cause a b⟩

/-! ### The loss of the frame clock (R113, R184) -/

/-- The strobe of a tick leaves the state of the time base (R178). -/
theorem Part.tickCore_state (p : Part) (hv : p.vacantOutsideActive) : p.tickCore.timeBase.state = p.timeBase.state := by
  have ht : p.ticked.timeBase.state = p.timeBase.state := by
    rw [Part.ticked_eq]
    rfl
  rw [Part.tickCore_eq, ← ht]
  unfold Part.strobe
  dsimp only
  repeat' split
  · rfl
  · exact congrArg TimeBase.state (p.ticked.scanMiss_cases _ (Part.ticked_vacant hv)).1
  · rfl

/-- The aborts of the loss leave every sender FREE (R112, R113). -/
theorem Part.Losing.senders_freed {p : Part} (h : p.Losing) (k : SenderId) :
    ((p.forSenders (fun j q => q.abortForLoss j)).sender k).state = .free := by
  rw [h.forSenders_abortForLoss, Part.afterAborts_sender, Part.senderAfter, if_pos (mem_allSenders k)]
  rfl

theorem Part.losing_of_orderlyPairs {p : Part} (h : p.orderlyPairs) (hu : p.timeBase.state ≠ .locked) : p.Losing :=
  ⟨hu, h.2.named, h.2.free_iff, h.2.freed, h.1.waiting⟩

theorem Part.orderlyPairs.setTimeBase {p : Part} (h : p.orderlyPairs) (f : TimeBase → TimeBase) :
    (p.setTimeBase f).orderlyPairs := ⟨h.1.beside rfl rfl, h.2.of_eq (fun _ => rfl) rfl⟩

theorem Part.loseClock_idle {p : Part} (h : p.orderlyPairs) : p.loseClock.idleUnlocked := by
  have hq := (Part.orderlyPairs_keptByWrites.beforeLoss h).setTimeBase
    (fun t => { t with state := .fallback, divider := 0, runCount := 0 })
  have hstate := Part.tickCore_state _ hq.1.vacant
  intro _ k
  unfold Part.loseClock
  dsimp only
  rw [Part.sender_reportBoth]
  refine (Part.losing_of_orderlyPairs (Part.orderlyPairs_keptByWrites.tickCore hq) ?_).senders_freed k
  rw [hstate]
  simp [Part.setTimeBase]

theorem Part.watchdogExpiry_idle {p : Part} (h : p.orderlyPairs) (hi : p.idleUnlocked) :
    p.watchdogExpiry.idleUnlocked := by
  unfold Part.watchdogExpiry
  split
  · exact hi
  · exact hi
  · exact Part.loseClock_idle (h.setTimeBase _)
  · exact hi.of_eq (TimeBaseState.kept rfl) rfl

/-- Settles O59: the supervision by the writes alone; with the senders, the loss of the frame clock is the one row that
leaves LOCKED, and it aborts them all. -/
theorem linesAndSendersNameEachOther : Obligations.LinesAndSendersNameEachOther := by
  unfold Obligations.LinesAndSendersNameEachOther
  have hboth : (fun p : Part => p.orderlyPairs ∧ p.idleUnlocked) = fun p => p.supervisionKept ∧ p.sendersKept :=
    funext fun p => propext ⟨fun ⟨⟨ho, h1, h2, h3⟩, h4⟩ => ⟨p.orderly_iff.1 ho, h1, h2, h3, h4⟩,
      fun ⟨ho, h1, h2, h3, h4⟩ => ⟨⟨p.orderly_iff.2 ho, h1, h2, h3⟩, h4⟩⟩
  rw [← hboth, ← show Part.orderly = Part.supervisionKept from funext fun p => propext p.orderly_iff]
  refine ⟨keptByEveryStep_of_rows (Part.orderly_keptByWrites.keptByRows
      (fun _ => Part.orderly_keptByWrites.watchdogExpiry (fun _ _ h => h.beside rfl rfl))),
    keptByEveryStep_of_rows ((Part.orderlyPairs_keptByWrites.and Part.idleUnlocked_keptByWrites).keptByRows
      (fun p ⟨h, hi⟩ => ⟨?_, Part.watchdogExpiry_idle h hi⟩))⟩
  exact Part.orderlyPairs_keptByWrites.watchdogExpiry (fun f _ h => h.setTimeBase f) h

end Sys2Proof.Machine
end

section
/-!
PROOF. The commands that change a line's state, gate, trace slot or queue (R44, R45, R67 to R72, R88), and the expiries of the
supervision timers (R51, R53, R55, R56, R64), each read off the rule at a ready state.
-/
set_option Elab.async false

namespace Sys2Proof.Machine

/-! ### Entry to a state with a line written first -/

/-- Where no test waits, entry to a state other than DISABLED confirms the run in progress and removes the ended one (R26). -/
theorem Decoder.enter_made (d : Decoder) {st : LineState} (hs : st ≠ .disabled) (ht : d.tests = .made) :
    d.enter st = { d with run := { d.run with confirmed := true }, ended := none } := by
  simp only [Decoder.enter, if_neg hs, ← ht]

theorem Part.enterWithTimer_setLine (p : Part) (l : LineId) (x : Line) (st : LineState) (hx : x.profile = (p.line l).profile) :
    (p.setLine l x).enterWithTimer l st = p.setLine l { x.entered st with
      timer := st.timer.map (fun k => ⟨k, timerLength k x (p.profileOfLine l)⟩) } := by
  rw [Part.enterWithTimer_eq, Part.line_setLine_self, Part.setLine_setLine, Part.profileOfLine_setLine _ _ _ _ hx]

/-- The FIRST_DIGIT timer's length in the words of the statements (R16, R49). -/
theorem timerLength_firstDigit (x : Line) (r : Profile) :
    some (Timer.mk .firstDigit (timerLength .firstDigit x r)) = x.classTimer .firstDigit r.firstDigitTime := rfl

/-- The entry of a seizure of a line with no test waiting (R53). -/
theorem Part.seize_setLine (p : Part) (l : LineId) (x : Line) (hx : x.profile = (p.line l).profile)
    (ht : x.decoder.tests = .made) :
    (p.setLine l x).seize l = p.setLine l { x with
      state := .active
      gate := (p.profileOfLine l).seizeGate
      pulseDialled := false
      digitIndex := 0
      callStart := some p.timeBase.lineTime
      timer := x.classTimer .firstDigit (p.profileOfLine l).firstDigitTime
      decoder := { x.decoder with run := { x.decoder.run with confirmed := true }, ended := none } } := by
  simp only [Part.seize, Part.updLine, Part.line_setLine_self, Part.setLine_setLine, Part.profileOfLine_setLine _ _ _ _ hx]
  rw [Part.enterWithTimer_setLine _ _ _ _ (by exact hx), ← timerLength_firstDigit]
  simp only [Line.entered, x.decoder.enter_made (by decide : LineState.active ≠ .disabled) ht]
  rfl

theorem Part.seize_made (p : Part) (l : LineId) (ht : (p.line l).decoder.tests = .made) :
    p.seize l = p.setLine l { p.line l with
      state := .active
      gate := (p.profileOfLine l).seizeGate
      pulseDialled := false
      digitIndex := 0
      callStart := some p.timeBase.lineTime
      timer := (p.line l).classTimer .firstDigit (p.profileOfLine l).firstDigitTime
      decoder := { (p.line l).decoder with
        run := { (p.line l).decoder.run with confirmed := true }, ended := none } } := by
  have h := p.seize_setLine l (p.line l) rfl ht
  rwa [p.setLine_line l] at h

/-! ### Trace slots (R44, R45) -/

theorem Part.freeTrace_none (p : Part) (l : LineId) (h : (p.line l).trace = none) : p.freeTrace l = p := by
  simp only [Part.freeTrace, h]

theorem Part.freeTrace_some (p : Part) (l : LineId) (i : SlotId) (h : (p.line l).trace = some i) :
    p.freeTrace l = (p.setTraceSlot i none).setLine l { p.line l with trace := none } := by
  simp only [Part.freeTrace, h]
  rfl

theorem Part.freeSlot_some (p : Part) (i : SlotId) (hi : p.traceSlot i = none) (hj : ∀ j, j < i → p.traceSlot j ≠ none) :
    p.freeSlot = some i := by
  unfold Part.freeSlot
  match i with
  | 0 => rw [if_pos hi]
  | 1 => rw [if_neg (hj 0 (by decide)), if_pos hi]

theorem Part.freeSlot_none (p : Part) (h : ∀ i, p.traceSlot i ≠ none) : p.freeSlot = none := by
  rw [Part.freeSlot, if_neg (h 0), if_neg (h 1)]

section
variable (p : Part) (lk : LinkId) (l : LineId) (h : p.takes lk)
include h

section
variable (hs : (p.line l).state ≠ .disabled)
include hs

theorem Part.traceOn_held (i : SlotId) (hi : (p.line l).trace = some i) :
    p.traceOnCommand lk (lowChar l.val) = p.ack lk 0x0E (some (lowChar l.val)) 0 := by
  rw [Part.traceOnCommand, Part.lineCommand_line _ _ _ _ _ h, Part.inStates_in _ _ _ _ _ _ _ ((enabledStates_mem _).2 hs)]
  simp only [hi]

theorem Part.traceOn_takes (i : SlotId) (hn : (p.line l).trace = none) (hi : p.freeSlot = some i) :
    p.traceOnCommand lk (lowChar l.val) = ((p.setTraceSlot i (some l)).setLine l { p.line l with trace := some i }).ack lk
      0x0E (some (lowChar l.val)) 0 := by
  rw [Part.traceOnCommand, Part.lineCommand_line _ _ _ _ _ h, Part.inStates_in _ _ _ _ _ _ _ ((enabledStates_mem _).2 hs)]
  simp only [hn, hi]
  rfl

theorem Part.traceOn_busy (hn : (p.line l).trace = none) (hi : p.freeSlot = none) :
    p.traceOnCommand lk (lowChar l.val) = p.reject lk .busy 0x0E (lowChar l.val) := by
  rw [Part.traceOnCommand, Part.lineCommand_line _ _ _ _ _ h, Part.inStates_in _ _ _ _ _ _ _ ((enabledStates_mem _).2 hs)]
  simp only [hn, hi]

end

theorem Part.traceOff_eq : p.traceOffCommand lk (lowChar l.val) = (p.freeTrace l).ack lk 0x0F (some (lowChar l.val)) 0 := by
  rw [Part.traceOffCommand, Part.lineCommand_line _ _ _ _ _ h]

end

/-- Settles O20. -/
theorem traceCommandsTakeAndFreeSlots : Obligations.TraceCommandsTakeAndFreeSlots := by
  unfold Obligations.TraceCommandsTakeAndFreeSlots
  intro s lk l hr ht
  have on {q : Part} : s.part.traceOnCommand lk (lowChar l.val) = q →
      exec (.traceOn lk (lowChar l.val)) s = .next (s.withPart q) := exec_command_ready_eq (.traceOn _ _) lk _ _ s q hr rfl
  have off {q : Part} : s.part.traceOffCommand lk (lowChar l.val) = q →
      exec (.traceOff lk (lowChar l.val)) s = .next (s.withPart q) := exec_command_ready_eq (.traceOff _ _) lk _ _ s q hr rfl
  refine ⟨fun hs => ⟨fun i hi => on ?_, fun i hn hi hj => on ?_, fun hn hf => on ?_⟩, fun hn => off ?_, fun i hi => off ?_⟩
  · exact s.part.traceOn_held lk l ht hs i hi
  · exact s.part.traceOn_takes lk l ht hs i hn (s.part.freeSlot_some i hi hj)
  · exact s.part.traceOn_busy lk l ht hs hn (s.part.freeSlot_none hf)
  · rw [s.part.traceOff_eq lk l ht, s.part.freeTrace_none l hn]
    rfl
  · rw [s.part.traceOff_eq lk l ht, s.part.freeTrace_some l i hi]
    rfl

/-! ### Commands that leave a state (R67, R69, R71, R88) -/

/-- Settles O23: the trace slot is freed, and the steps of R59 follow. -/
theorem disableFreesTraceAndLeaves : Obligations.DisableFreesTraceAndLeaves := by
  unfold Obligations.DisableFreesTraceAndLeaves
  intro s lk l hr ht hs p hp
  have hfree : s.part.freeTrace l = p := by
    rw [hp]
    cases hi : (s.part.line l).trace with
    | none => exact s.part.freeTrace_none l hi
    | some i => exact s.part.freeTrace_some l i hi
  have hline : (p.line l).state = (s.part.line l).state ∧ (p.line l).gate = (s.part.line l).gate := by
    rw [hp]
    cases (s.part.line l).trace with
    | none => exact ⟨rfl, rfl⟩
    | some i => simp only [Part.line_setLine_self, and_self]
  refine exec_command_ready_eq _ lk _ _ s _ hr rfl ?_
  change s.part.disableCommand lk (lowChar l.val) = _
  rw [Part.disableCommand, Part.lineCommand_line _ _ _ _ _ ht,
    Part.inStates_in _ _ _ _ _ _ _ ((enabledStates_mem _).2 hs), hfree, Part.leaveFor_untimed _ _ _ _ _ rfl, hline.1,
    hline.2]
  rfl

/-- Settles O25. -/
theorem converseAndParkTakeTheLeavingSteps : Obligations.ConverseAndParkTakeTheLeavingSteps := by
  unfold Obligations.ConverseAndParkTakeTheLeavingSteps
  intro s lk l hr ht
  refine ⟨fun hs => exec_command_ready_eq _ lk _ _ s _ hr rfl ?_, fun hs => exec_command_ready_eq _ lk _ _ s _ hr rfl ?_⟩
  · change s.part.converseCommand lk (lowChar l.val) = _
    rw [Part.converseCommand, Part.lineCommand_line _ _ _ _ _ ht, Part.inStates_in _ _ _ _ _ _ _ (by simp [hs]),
      Part.leaveFor_untimed _ _ _ _ _ rfl, hs]
    rfl
  · change s.part.parkCommand lk (lowChar l.val) = _
    rw [Part.parkCommand, Part.lineCommand_line _ _ _ _ _ ht, Part.inStates_in _ _ _ _ _ _ _ (by simpa using hs),
      Part.leaveFor_untimed _ _ _ _ _ rfl]
    rfl

/-- The abort touches neither the state of a line nor its gate (R109). -/
theorem Part.abort_stateGate (p : Part) (l : LineId) :
    ((p.abort l).line l).state = (p.line l).state ∧ ((p.abort l).line l).gate = (p.line l).gate := by
  have h := (p.abort_sameAside l).line l
  exact ⟨Line.sameAside_state h, Line.sameAside_gate h⟩

/-- Settles O31: WITHDRAW takes steps 3 to 5 of R59 and no other. -/
theorem withdrawFlushesTheQueue : Obligations.WithdrawFlushesTheQueue := by
  unfold Obligations.WithdrawFlushesTheQueue
  intro s lk l hr ht hs p hp
  obtain ⟨hst, hg⟩ := s.part.abort_stateGate l
  rw [← hp] at hst hg
  refine exec_command_ready_eq _ lk _ _ s _ hr rfl ?_
  change s.part.withdrawCommand lk (lowChar l.val) = _
  rw [Part.withdrawCommand, Part.lineCommand_line _ _ _ _ _ ht, Part.inStates_in _ _ _ _ _ _ _ (by simp [hs]), Part.withdraw,
    Part.giveUpSender, ← hp]
  have hline : (((p.leaveGrantQueue l).flush l).line l) = { p.line l with queue := [] } :=
    Part.line_setLine_self (p.leaveGrantQueue l) l _
  have hnow : (((p.leaveGrantQueue l).flush l).line l).state = .active := by
    rw [hline]
    exact hst.trans hs
  have hgate : (((p.leaveGrantQueue l).flush l).line l).gate = (s.part.line l).gate := by
    rw [hline]
    exact hg
  rw [Part.lineStateReport, hnow, hgate]
  rfl

/-! ### Gate commands (R60, R68, R97) -/

theorem Part.setGate_same (p : Part) (lk : LinkId) (l : LineId) (g : Gate) (c : LineCause) (h : (p.line l).gate = g) :
    p.setGate lk l g c = p := by
  rw [Part.setGate, if_pos h]

/-- A change of the gate is stored and reported, and in ACTIVE handed to the sender pool. -/
theorem Part.setGate_change (p q : Part) (lk : LinkId) (l : LineId) (g : Gate) (c : LineCause) (h : (p.line l).gate ≠ g)
    (hq : q = (p.setLine l { p.line l with gate := g }).reportBoth
      (.lineState l (p.line l).state (p.line l).state g c (some lk) 0)) :
    p.setGate lk l g c = if (p.line l).state = .active then
      (match g with | .open => q.judge l | .shut => q.leaveGrantQueue l) else q := by
  have hline : q.line l = { p.line l with gate := g } := by rw [hq, Part.line_reportBoth, Part.line_setLine_self]
  rw [Part.setGate, if_neg h, Part.updLine, Part.lineStateReport_setLine, ← hq, Part.gateChanged, hline]
  cases g <;> rfl

/-- Settles O24. -/
theorem gateCommandsStoreTheirValue : Obligations.GateCommandsStoreTheirValue := by
  unfold Obligations.GateCommandsStoreTheirValue
  intro s lk l hr ht hs
  have opens {q : Part} (hq : (s.part.setGate lk l .open .openGate).ack lk 0x05 (some (lowChar l.val)) 0 = q) :
      exec (.openGate lk (lowChar l.val)) s = .next (s.withPart q) := by
    refine exec_command_ready_eq _ lk _ _ s q hr rfl ?_
    change s.part.openGateCommand lk (lowChar l.val) = q
    rw [Part.openGateCommand, Part.lineCommand_line _ _ _ _ _ ht, Part.inStates_in _ _ _ _ _ _ _ (by simpa using hs), hq]
  have shuts {q : Part} (hq : (s.part.setGate lk l .shut .shutGate).ack lk 0x06 (some (lowChar l.val)) 0 = q) :
      exec (.shutGate lk (lowChar l.val)) s = .next (s.withPart q) := by
    refine exec_command_ready_eq _ lk _ _ s q hr rfl ?_
    change s.part.shutGateCommand lk (lowChar l.val) = q
    rw [Part.shutGateCommand, Part.lineCommand_line _ _ _ _ _ ht, Part.inStates_in _ _ _ _ _ _ _ (by simpa using hs), hq]
  refine ⟨fun hg => opens ?_, fun hg => shuts ?_, fun hg p hp => opens ?_, fun hg p hp => shuts ?_⟩
  · rw [s.part.setGate_same lk l _ _ hg]
    rfl
  · rw [s.part.setGate_same lk l _ _ hg]
    rfl
  · rw [s.part.setGate_change p lk l _ _ (by simp [hg]) hp]
    rfl
  · rw [s.part.setGate_change p lk l _ _ (by simp [hg]) hp]
    rfl

/-! ### RESUME and RESTORE (R70, R72) -/

theorem Part.restoreEntry_open (p : Part) (l : LineId) (h : (p.line l).slicer.debounced = .open) :
    p.restoreEntry l = p.enterWithTimer l .idle := by
  simp only [Part.restoreEntry, h]

theorem Part.restoreEntry_closed (p : Part) (l : LineId) (h : (p.line l).slicer.debounced = .closed) :
    p.restoreEntry l = p.seize l := by
  simp only [Part.restoreEntry, h]

/-- Settles O26: each command enters its state, reports, judges the line and answers. -/
theorem resumeAndRestoreReturnTheLine : Obligations.ResumeAndRestoreReturnTheLine := by
  unfold Obligations.ResumeAndRestoreReturnTheLine
  intro s lk l x r d hr ht hx hp hd
  have hm : x.decoder.tests = .made := hx ▸ hr.2.1 l
  have hent (st : LineState) (hs : st ≠ .disabled) : x.decoder.enter st = d := by rw [hd, x.decoder.enter_made hs hm]
  have restores {q : Part} (hs : x.state = .parked ∨ x.state = .quarantine)
      (hq : (((((s.part.setLine l { x with timer := none, flaps := 0 }).restoreEntry l).lineStateReport l x.state
        .restored (some lk) 0).judge l).ack lk 0x0A (some (lowChar l.val)) 0) = q) :
      exec (.restore lk (lowChar l.val)) s = .next (s.withPart q) := by
    refine exec_command_ready_eq _ lk _ _ s q hr rfl ?_
    change s.part.restoreCommand lk (lowChar l.val) = q
    rw [Part.restoreCommand, Part.lineCommand_line _ _ _ _ _ ht,
      Part.inStates_in _ _ _ _ _ _ _ (by simpa [hx] using hs), Part.updLine, ← hx, hq]
  refine ⟨fun hs => exec_command_ready_eq _ lk _ _ s _ hr rfl ?_, fun hs ho => restores hs ?_, fun hs hc => restores hs ?_⟩
  · change s.part.resumeCommand lk (lowChar l.val) = _
    rw [Part.resumeCommand, Part.lineCommand_line _ _ _ _ _ ht, Part.inStates_in _ _ _ _ _ _ _ (by simp [← hx, hs]),
      Part.updLine, ← hx, Part.enterWithTimer_setLine _ _ _ _ (by rw [hx]), ← hp, Part.lineStateReport_setLine]
    simp only [Line.entered, hent .active (by decide), ← timerLength_firstDigit]
    rfl
  · rw [Part.restoreEntry_open _ _ (by rw [Part.line_setLine_self]; exact ho),
      Part.enterWithTimer_setLine _ _ _ _ (by rw [hx]), Part.lineStateReport_setLine]
    simp only [Line.entered, hent .idle (by decide)]
    rfl
  · rw [Part.restoreEntry_closed _ _ (by rw [Part.line_setLine_self]; exact hc),
      Part.seize_setLine _ _ _ (by rw [hx]) (by exact hm), ← hp, Part.lineStateReport_setLine]
    simp only [← hd]
    rfl

/-! ### Expiries (R51, R53, R55, R56, R64) -/

section
variable (s : State) (l : LineId) (h : s.ready)
include h

theorem exec_restExpiry_ready : exec (.restExpiry l) s = .next (s.withPart (s.part.restExpiry l)) :=
  congrArg Host.Outcome.next (s.onPart_ready (·.restExpiry l) h)

theorem exec_seizeExpiry_ready : exec (.seizeExpiry l) s = .next (s.withPart (s.part.seizeExpiry l)) :=
  congrArg Host.Outcome.next (s.onPart_ready (·.seizeExpiry l) h)

theorem exec_firstDigitExpiry_ready : exec (.firstDigitExpiry l) s = .next (s.withPart (s.part.firstDigitExpiry l)) :=
  congrArg Host.Outcome.next (s.onPart_ready (·.firstDigitExpiry l) h)

theorem exec_partialExpiry_ready : exec (.partialExpiry l) s = .next (s.withPart (s.part.partialExpiry l)) :=
  congrArg Host.Outcome.next (s.onPart_ready (·.partialExpiry l) h)

theorem exec_settleExpiry_ready : exec (.settleExpiry l) s = .next (s.withPart (s.part.settleExpiry l)) :=
  congrArg Host.Outcome.next (s.onPart_ready (·.settleExpiry l) h)

end

/-- Settles O21, one timer at a time. -/
theorem supervisionTimersExpire : Obligations.SupervisionTimersExpire := by
  unfold Obligations.SupervisionTimersExpire
  intro s l x r st hr hx hp hst
  have hm : x.decoder.tests = .made := hx ▸ hr.2.1 l
  have due (k : TimerKind) (ht : x.timer = some ⟨k, 0⟩) : (s.part.line l).expired k = true :=
    decide_eq_true (hx ▸ ht)
  refine ⟨fun ht => ?_, fun ht => ?_, fun ht => ?_, fun ht => ?_, fun ht => ?_⟩
  · rw [exec_restExpiry_ready s l hr, Part.restExpiry, if_pos (due _ ht), Part.updLine, ← hx]
  · rw [exec_seizeExpiry_ready s l hr, Part.seizeExpiry, if_pos (due _ ht),
      Part.seize_made _ _ (hr.2.1 l), Part.lineStateReport_setLine, ← hx, ← hp]
  · rw [exec_firstDigitExpiry_ready s l hr, Part.firstDigitExpiry, if_pos (due _ ht), Part.leaveFor_untimed _ _ _ _ _ rfl,
      ← hx]
  · rw [exec_partialExpiry_ready s l hr, Part.partialExpiry, if_pos (due _ ht), Part.leaveFor_untimed _ _ _ _ _ rfl, ← hx]
  · have hd : st ≠ .disabled := by
      rw [hst]
      cases x.slicer.debounced <;> decide
    have he : settledState x.slicer.debounced = st := hst.symm
    have htimer : st.timer.map (fun k => (⟨k, timerLength k x r⟩ : Timer))
        = if st = .idle then some ⟨.rest, 30000⟩ else none := by
      rw [hst]
      cases x.slicer.debounced <;> rfl
    rw [exec_settleExpiry_ready s l hr, Part.settleExpiry, if_pos (due _ ht), Part.enterWithTimer_eq,
      Part.lineStateReport_setLine, ← hx, ← hp, he, htimer]
    simp only [Line.entered, x.decoder.enter_made hd hm]

end Sys2Proof.Machine
end

section
/-!
PROOF. Commands refused by an index or by the line's state (R65, R161), and QUERY LINE with the layout of its reply (R73, 10.6).
-/
set_option Elab.async false

namespace Sys2Proof.Machine

/-! ### Refusals (R65, R161) -/

section
variable (p : Part) (lk : LinkId) (kind b : Byte) (h : p.takes lk)
include h

theorem Part.lineCommand_out (f : LineId → Part → Part) (hb : 48 ≤ b.toNat) :
    p.lineCommand lk kind b f = p.reject lk .range kind b := by
  rw [Part.lineCommand, p.onLink_takes lk _ h, lineOf_out b hb]

theorem Part.lineProfileCommand_out (i : Byte) (f : LineId → ProfileId → Part → Part) (hb : 48 ≤ b.toNat ∨ 8 ≤ i.toNat) :
    p.lineProfileCommand lk kind b i f = p.reject lk .range kind b := by
  rw [Part.lineProfileCommand, p.onLink_takes lk _ h]
  rcases hb with hb | hb
  · rw [lineOf_out b hb]
  · rw [profileOf_out i hb]
    cases lineOf b <;> rfl

theorem Part.writeProfileCommand_out (r : RawProfile) (hb : 8 ≤ b.toNat) :
    p.writeProfileCommand lk b r = p.reject lk .range 0x11 b := by
  rw [Part.writeProfileCommand, p.onLink_takes lk _ h, profileOf_out b hb]

theorem Part.writeConventionCommand_out (es : Vector Byte 10) (hb : 4 ≤ b.toNat) :
    p.writeConventionCommand lk b es = p.reject lk .range 0x12 b := by
  rw [Part.writeConventionCommand, p.onLink_takes lk _ h, conventionOf_out b hb]

variable (l : LineId) (hb : b.toNat = l.val) (states : List LineState) (hs : (p.line l).state ∉ states)
include hb hs

theorem Part.lineCommand_refused (f : LineId → Part → Part) :
    p.lineCommand lk kind b (fun l p => p.inStates lk kind b l states (f l)) = p.reject lk .state kind b := by
  obtain rfl : b = lowChar l.val := BitVec.eq_of_toNat_eq (by rw [toNat_lowChar_fin l (by decide), hb])
  rw [Part.lineCommand_line _ _ _ _ _ h, Part.inStates_out _ _ _ _ _ _ _ hs]

theorem Part.lineProfileCommand_refused (i : Byte) (hi : i.toNat < 8) (f : LineId → ProfileId → Part → Part) :
    p.lineProfileCommand lk kind b i (fun l i p => p.inStates lk kind b l states (f l i))
      = p.reject lk .state kind b := by
  obtain rfl : b = lowChar l.val := BitVec.eq_of_toNat_eq (by rw [toNat_lowChar_fin l (by decide), hb])
  have hprofile : i = lowChar (⟨i.toNat, hi⟩ : ProfileId).val := BitVec.eq_of_toNat_eq (by
    rw [toNat_lowChar_fin (⟨i.toNat, hi⟩ : ProfileId) (by decide)])
  rw [hprofile, Part.lineProfileCommand_line _ _ _ _ _ _ h, Part.inStates_out _ _ _ _ _ _ _ hs]

end

/-- Settles O28: each command is one of the four shapes above. -/
theorem commandsAreRejectedByIndexAndState : Obligations.CommandsAreRejectedByIndexAndState := by
  unfold Obligations.CommandsAreRejectedByIndexAndState
  intro s lk b kind c hr ht
  refine ⟨fun h => ?range, fun l taken hb h hs => ?state⟩
  case range =>
    rcases h with ⟨hb, hc | ⟨xs, hc⟩⟩ | ⟨i, hb, hc⟩ | ⟨r, hb, hc⟩ | ⟨es, hb, hc⟩
    · simp only [List.mem_cons, List.not_mem_nil, or_false, Prod.mk.injEq] at hc
      rcases hc with ⟨rfl, rfl⟩ | ⟨rfl, rfl⟩ | ⟨rfl, rfl⟩ | ⟨rfl, rfl⟩ | ⟨rfl, rfl⟩ | ⟨rfl, rfl⟩ | ⟨rfl, rfl⟩ | ⟨rfl, rfl⟩
        | ⟨rfl, rfl⟩ | ⟨rfl, rfl⟩ | ⟨rfl, rfl⟩ | ⟨rfl, rfl⟩
      all_goals
        refine exec_command_ready_eq _ lk _ _ s _ hr rfl ?_
        dsimp only [Part.takeCommand]
        exact (s.part.lineCommand_out lk _ b ht _ hb)
    · obtain ⟨rfl, rfl⟩ := Prod.mk.injEq .. ▸ hc
      refine exec_command_ready_eq _ lk _ _ s _ hr rfl ?_
      dsimp only [Part.takeCommand]
      exact s.part.lineCommand_out lk _ b ht _ hb
    · simp only [List.mem_cons, List.not_mem_nil, or_false, Prod.mk.injEq] at hc
      rcases hc with ⟨rfl, rfl⟩ | ⟨rfl, rfl⟩
      all_goals
        refine exec_command_ready_eq _ lk _ _ s _ hr rfl ?_
        dsimp only [Part.takeCommand]
        exact (s.part.lineProfileCommand_out lk _ b ht i _ hb)
    · obtain ⟨rfl, rfl⟩ := Prod.mk.injEq .. ▸ hc
      exact exec_command_ready_eq _ lk _ _ s _ hr rfl (s.part.writeProfileCommand_out lk b ht r hb)
    · obtain ⟨rfl, rfl⟩ := Prod.mk.injEq .. ▸ hc
      exact exec_command_ready_eq _ lk _ _ s _ hr rfl (s.part.writeConventionCommand_out lk b ht es hb)
  case state =>
    rcases h with hc | ⟨i, hi, hc⟩ | ⟨i, hi, hc⟩ | ⟨xs, hc⟩
    · simp only [List.mem_cons, List.not_mem_nil, or_false, Prod.mk.injEq] at hc
      rcases hc with ⟨rfl, rfl, rfl⟩ | ⟨rfl, rfl, rfl⟩ | ⟨rfl, rfl, rfl⟩ | ⟨rfl, rfl, rfl⟩ | ⟨rfl, rfl, rfl⟩ | ⟨rfl, rfl, rfl⟩
        | ⟨rfl, rfl, rfl⟩ | ⟨rfl, rfl, rfl⟩ | ⟨rfl, rfl, rfl⟩ | ⟨rfl, rfl, rfl⟩
      all_goals
        refine exec_command_ready_eq _ lk _ _ s _ hr rfl ?_
        dsimp only [Part.takeCommand]
        exact (s.part.lineCommand_refused lk _ b ht l hb _ hs _)
    all_goals
      simp only [Prod.mk.injEq] at hc
      obtain ⟨rfl, rfl, rfl⟩ := hc
    · exact exec_command_ready_eq _ lk _ _ s _ hr rfl (s.part.lineProfileCommand_refused lk _ b ht l hb _ hs i hi _)
    · exact exec_command_ready_eq _ lk _ _ s _ hr rfl (s.part.lineProfileCommand_refused lk _ b ht l hb _ hs i hi _)
    · exact exec_command_ready_eq _ lk _ _ s _ hr rfl (s.part.lineCommand_refused lk _ b ht l hb _ hs _)

/-! ### LINE REPLY (10.6) -/

theorem lowHigh_value (n : Nat) : (lowChar n).toNat + 256 * (highChar n).toNat = n % 65536 := by
  rw [highChar, toNat_lowChar, BitVec.toNat_ofNat]
  omega

/-- The flags character is the mask of the eight flags, the first the least significant. -/
theorem lineFlags_value (x : Line) (waiting : Bool) : (lineFlags x waiting).toNat = maskOf
    [decide (x.gate = .open), x.pulseDialled, waiting, x.callStart.isSome, decide (x.slicer.debounced = .closed)
      , decide (x.decoder.run.polarity = .closed), x.decoder.run.confirmed, x.decoder.ended.isSome] := by
  rw [lineFlags, toNat_lowChar]
  simp only [beq_eq_decide, bit, maskOf]
  generalize decide (x.gate = .open) = b0
  generalize x.callStart.isSome = b3
  generalize decide (x.slicer.debounced = .closed) = b4
  generalize decide (x.decoder.run.polarity = .closed) = b5
  generalize x.decoder.ended.isSome = b7
  have place (b : Bool) (k : Nat) : (if b then 2 ^ k else 0) = 2 ^ k * if b then 1 else 0 := by cases b <;> simp
  have unit (b : Bool) : (if b then 1 else 0) < 2 := by cases b <;> decide
  simp only [place]
  have := unit b0
  have := unit x.pulseDialled
  have := unit waiting
  have := unit b3
  have := unit b4
  have := unit b5
  have := unit x.decoder.run.confirmed
  have := unit b7
  omega

theorem LineState.code_spells (st : LineState) :
    [LineState.disabled, .idle, .seizing, .active, .converse, .parked, .quarantine][st.code.toNat]? = some st := by
  cases st <;> rfl

theorem LineClass.code_spells (c : LineClass) : [LineClass.clean, .damp, .weak, .fault][c.code.toNat]? = some c := by
  cases c <;> rfl

theorem timerCode_lt (k : Option TimerKind) : timerCode k < 8 := by
  rcases k with _ | k
  · decide
  · cases k <;> decide

/-- The value that the supervision timer's characters spell. -/
def timerValue (t : Option Timer) : Nat :=
  match t with
  | none => 0
  | some t => t.remaining % 131072 + 2097152 * timerCode (some t.kind)

theorem timerValue_lt (t : Option Timer) : timerValue t < 16777216 := by
  cases t with
  | none => decide
  | some t =>
    have := timerCode_lt (some t.kind)
    simp only [timerValue]
    omega

/-- The call start that LINE REPLY shows (10.6). -/
def Line.callStartValue (x : Line) : Nat := match x.callStart with | none => 0 | some t => (stampOf t).toNat

/-- The duration of the ended run that LINE REPLY shows (10.6). -/
def Line.endedValue (x : Line) : Nat := match x.decoder.ended with | none => 0 | some r => r.duration

/-- Flap count and trace slot in one character (10.6). -/
def Line.flapsTrace (x : Line) : Nat := x.flaps + 16 * (match x.trace with | none => 15 | some i => i.val)

/-- The sender's character (10.6). -/
def Line.senderChar (x : Line) : Byte := match x.sender with | none => 0xFF | some k => lowChar k.val

/-- LINE REPLY, offset by offset, up to the digit in progress (10.6). -/
theorem lineReply_bodyChars (stamp : Half) (l : LineId) (x : Line) (waiting : Bool) :
    Report.bodyChars ⟨stamp, .lineReply l x waiting⟩ =
      [ lowChar stamp.toNat, highChar stamp.toNat, lowChar l.val, x.state.code, lowChar x.profile.val, lineFlags x waiting
      , lowChar x.digitIndex, lowChar x.callStartValue, highChar x.callStartValue, lowChar (timerValue x.timer)
      , highChar (timerValue x.timer), lowChar (timerValue x.timer / 65536), lowChar x.flapsTrace, lowChar x.queue.length
      , x.senderChar, lowChar x.runCount, lowChar x.slicer.lc, highChar x.slicer.lc, lowChar x.slicer.lo, highChar x.slicer.lo
      , lowChar x.slicer.candidate, x.slicer.cls.code, lowChar x.slicer.faultReviews, lowChar x.decoder.pEst
      , highChar x.decoder.pEst, lowChar (stampOf x.decoder.run.start).toNat, highChar (stampOf x.decoder.run.start).toNat
      , lowChar x.decoder.run.duration, highChar x.decoder.run.duration, lowChar x.endedValue, highChar x.endedValue
      , lowChar (x.decoder.pendingBreak.getD 0)] ++ digitChars x.decoder.digit := rfl

theorem digitChars_length (d : Option Digit) : (digitChars d).length = 8 := by cases d <;> rfl

/-- Settles O27: the command's answer, and each offset of the reply read off the list of its characters. -/
theorem queryLineAnswersTheRecord : Obligations.QueryLineAnswersTheRecord := by
  unfold Obligations.QueryLineAnswersTheRecord
  refine ⟨fun s lk l hr ht => ?answer, fun stamp l x waiting cs one two hcs hone htwo => ?layout⟩
  case answer =>
    refine exec_command_ready_eq _ lk _ _ s _ hr rfl ?_
    change s.part.queryLineCommand lk (lowChar l.val) = _
    rw [Part.queryLineCommand, Part.lineCommand_line _ _ _ _ _ ht, List.contains_eq_mem]
  case layout =>
    rw [lineReply_bodyChars] at hcs
    have char (n : Nat) (b : Byte) (h : cs.getD n 0 = b) : one n = b.toNat := by rw [hone, h]
    have low (n v : Nat) (h : cs.getD n 0 = lowChar v) : one n = v % 256 := by rw [char n _ h, toNat_lowChar]
    have num (n v : Nat) (h1 : cs.getD n 0 = lowChar v) (h2 : cs.getD (n + 1) 0 = highChar v) : two n = v % 65536 := by
      rw [htwo, char n _ h1, char (n + 1) _ h2, lowHigh_value]
    refine ⟨rfl, ?length, ?stampChars, ?lineChar, ?state, ?profile, ?flags, ?index, ?callStart, ?timer, ?trace, ?queue, ?sender,
      ?runCount, ?lc, ?lo, ?candidate, ?cls, ?reviews, ?pEst, ?start, ?run, ?ended, ?pendingBreak, fun hd n hn => ?noDigit,
      fun g hg => ?digit⟩
    case noDigit =>
      have hzero : digitChars none = List.replicate 8 0 := rfl
      rw [hone, hcs, hd, List.getD_append_right _ _ _ _ hn, hzero, List.getD_eq_getElem?_getD,
        List.getElem?_getD_replicate_default_eq]
      rfl
    case digit =>
      rw [hg] at hcs
      subst hcs
      have mutilated : bit g.mutilated 1 = if g.mutilated then 2 else 0 := rfl
      refine ⟨?_, low 33 g.pairCount rfl, num 34 g.pairSum rfl rfl, num 36 g.flashMin rfl rfl, num 38 g.clearTime rfl rfl⟩
      rw [low 32 (1 + bit g.mutilated 1 + 4 * g.convention.val + 16 * g.count) rfl, mutilated]
    all_goals subst hcs
    case length => rw [List.length_append, digitChars_length]; rfl
    case stampChars => exact (num 0 stamp.toNat rfl rfl).trans (Nat.mod_eq_of_lt stamp.isLt)
    case lineChar => rw [char 2 (lowChar l.val) rfl, toNat_lowChar_fin l (by decide)]
    case state => rw [char 3 x.state.code rfl, x.state.code_spells]
    case profile => rw [char 4 (lowChar x.profile.val) rfl, toNat_lowChar_fin x.profile (by decide)]
    case flags => exact fun n => by rw [char 5 (lineFlags x waiting) rfl, lineFlags_value, maskOf_testBit]
    case index => exact low 6 x.digitIndex rfl
    case callStart =>
      rw [num 7 x.callStartValue rfl rfl, Line.callStartValue]
      cases x.callStart with
      | none => rfl
      | some t => simp [stampOf]
    case timer =>
      have hlt := timerValue_lt x.timer
      rw [num 9 (timerValue x.timer) rfl rfl, low 11 (timerValue x.timer / 65536) rfl,
        show timerValue x.timer % 65536 + 65536 * (timerValue x.timer / 65536 % 256) = timerValue x.timer by omega]
      cases x.timer with
      | none => rfl
      | some t =>
        simp only [timerValue, timerCode]
        cases t.kind <;> rfl
    case trace => exact low 12 x.flapsTrace rfl
    case queue => exact low 13 x.queue.length rfl
    case sender =>
      rw [char 14 x.senderChar rfl, Line.senderChar]
      cases x.sender with
      | none => rfl
      | some k => exact toNat_lowChar_fin k (by decide)
    case runCount => exact low 15 x.runCount rfl
    case lc => exact num 16 x.slicer.lc rfl rfl
    case lo => exact num 18 x.slicer.lo rfl rfl
    case candidate => exact low 20 x.slicer.candidate rfl
    case cls => rw [char 21 x.slicer.cls.code rfl, x.slicer.cls.code_spells]
    case reviews => exact low 22 x.slicer.faultReviews rfl
    case pEst => exact num 23 x.decoder.pEst rfl rfl
    case start => rw [num 25 (stampOf x.decoder.run.start).toNat rfl rfl, stampOf, BitVec.toNat_setWidth, Nat.mod_mod]
    case run => exact num 27 x.decoder.run.duration rfl rfl
    case ended =>
      rw [num 29 x.endedValue rfl rfl, Line.endedValue]
      cases x.decoder.ended <;> rfl
    case pendingBreak =>
      rw [low 31 (x.decoder.pendingBreak.getD 0) rfl]
      cases x.decoder.pendingBreak <;> rfl

end Sys2Proof.Machine
end

section
/-!
PROOF. The clear test (R28, R31, R58, R59, R62): on a CLEAR the line takes the steps of R59, whose abort and grants do not look
at which tests of a line are still to be made.
-/
set_option Elab.async false

namespace Sys2Proof.Machine

/-! ### An abort does not look at the tests of a line -/

theorem Part.setLine_comm (p : Part) {l m : LineId} (h : m ≠ l) (x y : Line) :
    (p.setLine l x).setLine m y = (p.setLine m y).setLine l x := by
  have hset := Vector.set_comm x y (xs := p.lines) (hi := l.isLt) (hj := m.isLt) (fun e => h (Fin.ext e.symm))
  simp only [Part.setLine, hset]

/-- A line with other tests to be made. -/
def Line.tested (x : Line) (t : SampleTests) : Line := { x with decoder := { x.decoder with tests := t } }

theorem Part.setTests_eq (p : Part) (l : LineId) (t : SampleTests) : p.setTests l t = p.setLine l ((p.line l).tested t) := rfl

section
variable (p : Part) (l m : LineId) (t : SampleTests)

theorem Part.line_setTests : (p.setTests l t).line m = if m = l then (p.line l).tested t else p.line m := by
  split
  · next e => rw [e, Part.setTests_eq, Part.line_setLine_self]
  · next e => rw [Part.setTests_eq, Part.line_setLine_ne _ _ _ _ e]

/-- A write that leaves the decoder as it is may be made before or after the tests are set. -/
theorem Part.updLine_setTests (f : Line → Line) (hf : ∀ x : Line, f (x.tested t) = (f x).tested t) :
    (p.setTests l t).updLine m f = (p.updLine m f).setTests l t := by
  by_cases e : m = l
  · subst e
    simp only [Part.updLine, Part.setTests_eq, Part.line_setLine_self, Part.setLine_setLine, hf]
  · simp only [Part.updLine, Part.setTests_eq, Part.line_setLine_ne _ _ _ _ e, Part.line_setLine_ne _ _ _ _ (Ne.symm e)]
    exact p.setLine_comm e _ _

theorem Part.queue_setTests : ((p.setTests l t).line m).queue = (p.line m).queue := by
  rw [p.line_setTests]
  split
  · next e => rw [e]; rfl
  · rfl

theorem Part.sender_of_setTests : ((p.setTests l t).line m).sender = (p.line m).sender := by
  rw [p.line_setTests]
  split
  · next e => rw [e]; rfl
  · rfl

theorem Part.profileOfLine_setTests : (p.setTests l t).profileOfLine m = p.profileOfLine m :=
  p.profileOfLine_setLine l m _ rfl

theorem Part.grant_setTests (k : SenderId) : (p.setTests l t).grant m k = (p.grant m k).setTests l t := by
  cases hq : (p.line m).queue with
  | nil => simp only [Part.grant, Part.queue_setTests, hq]
  | cons y cells =>
    rw [Part.grant_cons _ m k y cells (by rw [Part.queue_setTests, hq]), Part.grant_cons p m k y cells hq,
      Part.profileOfLine_setTests]
    have h := p.updLine_setTests l m t (fun x => { x with
      sender := some k, runCount := 1, queue := { y with sending := true } :: cells }) (fun _ => rfl)
    exact congrArg (fun r : Part => r.setSender k (burstStart m y.symbol (p.profileOfLine m).capture)) h

theorem Part.grantOnce_setTests : (p.setTests l t).grantOnce = p.grantOnce.setTests l t := by
  by_cases h : p.timeBase.state ≠ .locked ∨ p.grantQueue = [] ∨ ∀ k, (p.sender k).state ≠ .free
  · rw [p.grantOnce_idle h, Part.grantOnce_idle (p.setTests l t) h]
  · push Not at h
    obtain ⟨hs, hq, k, hk⟩ := h
    obtain ⟨m, rest, hq⟩ := List.exists_cons_of_ne_nil hq
    obtain ⟨j, hj⟩ : ∃ j, p.lowestFree = some j :=
      Option.isSome_iff_exists.1 (List.find?_isSome.2 ⟨k, List.mem_finRange k, decide_eq_true hk⟩)
    rw [p.grantOnce_head m rest j hs hq hj, Part.grantOnce_head (p.setTests l t) m rest j hs hq hj]
    exact Part.grant_setTests ({ p with grantQueue := rest } : Part) l m t j

theorem Part.grantTest_setTests : (p.setTests l t).grantTest = p.grantTest.setTests l t := by
  have h : ∀ (xs : List LineId) (q : Part), xs.foldl (fun r _ => r.grantOnce) (q.setTests l t)
      = (xs.foldl (fun r _ => r.grantOnce) q).setTests l t := by
    intro xs
    induction xs with
    | nil => exact fun _ => rfl
    | cons x xs ih =>
      intro q
      rw [List.foldl_cons, Part.grantOnce_setTests, ih, List.foldl_cons]
  exact h p.grantQueue p

theorem Part.abortCell_setTests (k : SenderId) : (p.setTests l t).abortCell l k = (p.abortCell l k).setTests l t := by
  have hk : (p.setTests l t).sender k = p.sender k := rfl
  unfold Part.abortCell
  rw [hk]
  split
  · split
    · unfold Part.commit
      rw [Part.queue_setTests]
      split
      · rfl
      · next c cs _ =>
        have h := p.updLine_setTests l l t (fun x => { x with queue := cs }) (fun _ => rfl)
        exact congrArg (fun r : Part => ({ r with free := p.free + 1 } : Part).reportBoth (.digitSent l k .atAbort c)) h
    · unfold Part.restoreHead
      rw [Part.queue_setTests]
      split
      · rfl
      · next c cs _ =>
        exact p.updLine_setTests l l t (fun x => { x with queue := { c with sending := false } :: cs }) (fun _ => rfl)
  · rfl
  · rfl

theorem Part.abort_setTests : (p.setTests l t).abort l = (p.abort l).setTests l t := by
  have hheld := p.sender_of_setTests l l t
  cases hk : (p.line l).sender with
  | none => simp only [Part.abort, hheld, hk]
  | some k =>
    have h := (p.abortCell l k).updLine_setTests l l t (fun x => { x with sender := none, runCount := 0 }) (fun _ => rfl)
    have hfree : ((p.abortCell l k).setTests l t).freeSender l k = ((p.abortCell l k).freeSender l k).setTests l t :=
      congrArg (fun r : Part => r.setSender k Sender.freed) h
    rw [Part.abort_held _ l k (hheld.trans hk), p.abort_held l k hk, Part.abortCell_setTests, hfree,
      Part.grantTest_setTests]

theorem Part.abandoned_setTests : (p.setTests l t).abandoned l = (p.abandoned l).setTests l t := by
  have h := p.updLine_setTests l l t (fun x => { x with
    timer := none, decoder := { x.decoder with digit := none, pendingBreak := none } }) (fun _ => rfl)
  exact (congrArg (fun r : Part => r.abort l) h).trans (Part.abort_setTests _ l t)

/-- The entry to a state takes the tests of the latest sample as made, whatever they were. -/
theorem Part.afterLeaving_setTests (st : LineState) (timer : Option Timer) :
    (p.setTests l t).afterLeaving l st timer = p.afterLeaving l st timer := by
  simp only [Part.afterLeaving, Part.setTests_eq, Part.line_setLine_self, Part.setLine_setLine]
  rfl

/-- So the steps of R59 come to the same with the tests to be made or made. -/
theorem Part.leaveFor_setTests (st : LineState) (c : LineCause) (lk : Option LinkId) (k : TimerKind)
    (ht : st.timer = some k) (hs : k ≠ .seize) :
    (p.setTests l t).leaveFor l st c lk
      = ((p.abandoned l).afterLeaving l st (some ⟨k, timerLength k (p.line l) (p.profileOfLine l)⟩)).reportBoth
        (.lineState l st (p.line l).state (p.line l).gate c lk ((p.abandoned l).line l).queue.length) := by
  have hline : (p.setTests l t).line l = (p.line l).tested t := by rw [p.line_setTests, if_pos rfl]
  have hlen : timerLength k ((p.line l).tested t) (p.profileOfLine l) = timerLength k (p.line l) (p.profileOfLine l) := by
    cases k <;> rfl
  rw [Part.leaveFor_timed _ _ _ _ _ k ht hs, Part.abandoned_setTests, Part.afterLeaving_setTests, Part.queue_setTests, hline,
    Part.profileOfLine_setTests, hlen]
  rfl

end

/-! ### The clear stage -/

theorem Part.clearDue_iff (p : Part) (l : LineId) : p.clearDue l = true ↔
    ((p.line l).state = .active ∨ (p.line l).state = .converse ∨ (p.line l).state = .parked)
      ∧ (p.line l).slicer.debounced = .open ∧ (p.line l).decoder.run.polarity = .open
      ∧ p.clearLimit l ≤ (p.line l).decoder.run.duration := by
  simp only [Part.clearDue, Bool.and_eq_true, Bool.or_eq_true, decide_eq_true_eq, or_assoc, and_assoc]

/-- The clear test looks at no test of the sample. -/
theorem Part.clearDue_setTests (p : Part) (l : LineId) (t : SampleTests) : (p.setTests l t).clearDue l = p.clearDue l := by
  have hline : (p.setTests l t).line l = (p.line l).tested t := by rw [p.line_setTests, if_pos rfl]
  simp only [Part.clearDue, Part.clearLimit, Part.clearTime, Part.profileOfLine_setTests, hline]
  rfl

section
variable (s : State) (l : LineId) (hh : s.hold.held = false) (ht : (s.part.line l).decoder.tests = .limit)
include hh ht

/-- CLEAR on a line whose confirmation test is made is its clear test (R42). -/
theorem exec_clear_limit : exec (.clear l) s = .next (s.withPart (s.part.clearStage l)) := by
  have hc : s.part.confirmationStage l = s.part := if_neg (by rw [ht]; decide)
  change Host.Outcome.next (s.onPart (fun p => (p.confirmationStage l).clearStage l)) = _
  rw [State.onPart_working s _ hh, hc]
  rfl

theorem exec_gap_limit : exec (.gap l) s = .next (s.withPart (s.part.gapStage l)) := by
  have hc : s.part.confirmationStage l = s.part := if_neg (by rw [ht]; decide)
  change Host.Outcome.next (s.onPart (fun p => (p.confirmationStage l).gapStage l)) = _
  rw [State.onPart_working s _ hh, hc]
  rfl

end

theorem Line.shortCall_iff (x : Line) (t : LineTime) (h : x.callStart = some t) :
    x.shortCall = true ↔ x.digitIndex = 0 ∧ (x.decoder.run.start - t).toNat < 1000 := by
  simp only [Line.shortCall, h, Bool.and_eq_true, decide_eq_true_eq]

theorem Line.not_shortCall (x : Line) (h : x.digitIndex ≠ 0 ∨ x.callStart = none) : ¬ x.shortCall = true := by
  unfold Line.shortCall
  rcases h with h | h
  · split <;> simp [h]
  · simp [h]

/-- A CLEAR that is no short call takes the line to IDLE (R58, R62). -/
theorem Part.takeClear_idle (p : Part) (l : LineId)
    (hs : (p.line l).state = .active ∨ (p.line l).state = .converse ∨ (p.line l).state = .parked)
    (hc : (p.line l).state = .active → ¬ (p.line l).shortCall = true) : p.takeClear l = p.leaveFor l .idle .clear none := by
  unfold Part.takeClear
  rcases hs with e | e | e <;> rw [e]
  exact if_neg (hc e)

/-- A short call raises the flap count, which may quarantine the line (R55, R59). -/
theorem Part.takeClear_short (p : Part) (l : LineId) (hs : (p.line l).state = .active) (hc : (p.line l).shortCall = true) :
    p.takeClear l = if p.flapsOut l then (p.raiseFlaps l).leaveFor l .quarantine .flap none
      else (p.raiseFlaps l).leaveFor l .idle .clear none := by
  unfold Part.takeClear Part.quarantine
  rw [hs]
  exact if_pos hc

/-- Settles O18: the CLEAR trace, then the steps of R59 to the state that the flap count names. -/
theorem clearReturnsTheLineToIdle : Obligations.ClearReturnsTheLineToIdle := by
  unfold Obligations.ClearReturnsTheLineToIdle
  intro s l x clearTime hh hx ht hct
  subst hx
  have hlimit : s.part.clearLimit l = clearTime := by
    rw [hct, Part.clearLimit, Part.clearTime]
    by_cases hp : (s.part.line l).state = .parked
    · rw [if_pos hp, decide_eq_true hp]
      cases (s.part.line l).decoder.digit <;> rfl
    · rw [if_neg hp, decide_eq_false hp]
      cases (s.part.line l).decoder.digit <;> rfl
  rw [exec_clear_limit s l hh ht]
  refine ⟨fun ho => ?closed, fun ho hn => ?early, fun p ho hr hs hd hp => ?fires⟩
  case closed => rw [Part.clearStage, if_neg (fun k => by simp [ho] at k)]; rfl
  case early =>
    have hdue : ¬ (s.part.setTests l .made).clearDue l = true := by
      rw [Part.clearDue_setTests, Part.clearDue_iff, hlimit]
      rintro ⟨h1, -, h3, h4⟩
      rcases hn with ⟨n1, n2, n3⟩ | n | n
      · rcases h1 with h1 | h1 | h1
        · exact n1 h1
        · exact n2 h1
        · exact n3 h1
      · simp [n] at h3
      · omega
    rw [Part.clearStage, if_pos ⟨ht, ho⟩, Part.clearTest, if_neg hdue]
    rfl
  case fires =>
    have hdue : (s.part.setTests l .made).clearDue l = true := by
      rw [Part.clearDue_setTests, Part.clearDue_iff, hlimit]
      exact ⟨hs, ho, hr, hd⟩
    have hline : p.line l = s.part.line l := by rw [hp, Part.line_traceReport]
    have hprof : p.profileOfLine l = s.part.profileOfLine l := by rw [Part.profileOfLine, hline, hp, Part.profile_traceReport]; rfl
    have hstage : s.part.clearStage l = (p.setTests l .made).takeClear l := by
      have htrace : (s.part.setTests l .made).traceReport l .open (s.part.line l).decoder.run.duration .clear
          = p.setTests l .made := by
        rw [Part.setTests_eq, Part.traceReport_setLine _ l ((s.part.line l).tested .made) _ _ _ rfl rfl, ← hp,
          Part.setTests_eq, hline]
      rw [Part.clearStage, if_pos ⟨ht, ho⟩, Part.clearTest, if_pos hdue, Part.line_setTests, if_pos rfl]
      exact congrArg (fun r : Part => r.takeClear l) htrace
    have hnow : (p.setTests l .made).line l = (s.part.line l).tested .made := by rw [Part.line_setTests, if_pos rfl, hline]
    have leaves (q : Part) (hq : (q.line l).state = (s.part.line l).state ∧ (q.line l).gate = (s.part.line l).gate) :
        (q.setTests l .made).leaveFor l .idle .clear none
          = ((q.abandoned l).afterLeaving l .idle (some ⟨.rest, 30000⟩)).reportBoth (.lineState l .idle
            (s.part.line l).state (s.part.line l).gate .clear none ((q.abandoned l).line l).queue.length) := by
      rw [Part.leaveFor_setTests q l .made .idle .clear none .rest rfl (by decide), hq.1, hq.2]
      rfl
    rw [hstage]
    refine ⟨fun hl => ?long, fun t n q ha hi hc hn hq => ?counted⟩
    case long =>
      rw [Part.takeClear_idle _ _ (by rw [hnow]; exact hs) (fun ha => ?_), leaves p (by simp [hline])]
      rw [hnow] at ha ⊢
      exact Line.not_shortCall _ (hl.resolve_left (fun k => k ha))
    case counted =>
      have hshort : ((p.setTests l .made).line l).shortCall = true
          ↔ ((s.part.line l).decoder.run.start - t).toNat < 1000 := by
        rw [hnow, Line.shortCall_iff ((s.part.line l).tested .made) t hc]
        exact ⟨fun k => k.2, fun k => ⟨hi, k⟩⟩
      refine ⟨fun hlong => ?_, fun hsh => ?_⟩
      · rw [Part.takeClear_idle _ _ (by rw [hnow]; exact .inl ha) (fun _ k => by have := hshort.1 k; omega),
          leaves p (by simp [hline]), ha]
      · have hraise : (p.setTests l .made).raiseFlaps l = q.setTests l .made := by
          rw [Part.raiseFlaps, Part.updLine_setTests _ _ _ _ _ (fun _ => rfl), hq, hn, Part.updLine, hline]
          rfl
        have hqline : q.line l = { s.part.line l with flaps := n } := by rw [hq, Part.line_setLine_self]
        have hqprof : q.profileOfLine l = s.part.profileOfLine l := by
          rw [hq, Part.profileOfLine_setLine _ _ _ _ (by rw [hline]), hprof]
        have hflaps : (p.setTests l .made).flapsOut l = true ↔ ¬ n < (s.part.profileOfLine l).flapLimit := by
          rw [Part.flapsOut, decide_eq_true_eq, Part.profileOfLine_setTests, hprof, hnow, not_lt, hn]
          rfl
        rw [Part.takeClear_short _ _ (by rw [hnow]; exact ha) (hshort.2 hsh), hraise]
        by_cases hlt : n < (s.part.profileOfLine l).flapLimit
        · rw [if_neg (fun k => hflaps.1 k hlt), if_pos hlt, leaves q (by simp [hqline]), ha]
        · rw [if_pos (hflaps.2 hlt), if_neg hlt,
            Part.leaveFor_setTests q l .made .quarantine .flap none .settle rfl (by decide), hqline, hqprof, ha]
          rfl

end Sys2Proof.Machine
end

section
/-!
PROOF. The confirmation of a run and what it settles (R23, R27, R30, R32 to R37), and the end of a digit at its gap (R29, R38
to R40, R77 to R79).
-/
set_option Elab.async false

namespace Sys2Proof.Machine

/-! ### The confirmation stage (R23) -/

/-- The PARTIAL timer's length in the words of the statements (R16, R49). -/
theorem timerLength_partial (x : Line) (r : Profile) :
    some (Timer.mk .partialDial (timerLength .partialDial x r)) = x.classTimer .partialDial r.partialTime := rfl

theorem Line.confirms_iff (x : Line) : x.confirms = true ↔ (x.state = .active ∨ x.state = .converse)
    ∧ x.decoder.run.confirmed = false ∧ x.slicer.debounced = x.decoder.run.polarity
    ∧ x.slicer.cls.bmin ≤ x.decoder.run.duration := by
  simp only [Line.confirms, Bool.and_eq_true, Bool.or_eq_true, decide_eq_true_eq, Bool.not_eq_true', and_assoc]

/-- The decoder as the run in progress is confirmed and the ended one taken for settlement; the limit tests remain. -/
def Decoder.confirmed (d : Decoder) : Decoder :=
  { d with run := { d.run with confirmed := true }, ended := none, tests := .limit }

def Line.confirmed (x : Line) : Line := { x with decoder := x.decoder.confirmed }

theorem exec_runConfirmation (s : State) (l : LineId) (hh : s.hold.held = false) :
    exec (.runConfirmation l) s = .next (s.withPart (s.part.confirmationStage l)) := by
  change Host.Outcome.next (s.onPart (fun p => p.confirmationStage l)) = _
  rw [State.onPart_working s _ hh]
  rfl

section
variable (p : Part) (l : LineId) (ht : (p.line l).decoder.tests = .confirmation)
include ht

theorem Part.confirmationStage_passes (hc : ¬ (p.line l).confirms = true) : p.confirmationStage l = p.setTests l .limit := by
  rw [Part.confirmationStage, if_pos ht, if_neg hc]

variable (hc : (p.line l).confirms = true) (r : Run) (hr : (p.line l).decoder.ended = some r)
include hc hr

/-- A confirmation settles the ended run, of a line whose own run is then confirmed. -/
theorem Part.confirmationStage_open (hp : r.polarity = .open) : p.confirmationStage l
    = (p.setLine l (p.line l).confirmed).settleOpen l r.duration := by
  rw [Part.confirmationStage, if_pos ht, if_pos hc, Part.confirmRun, Part.setTests_eq, Part.updLine, Part.line_setLine_self,
    Part.setLine_setLine, Part.settleEnded, Part.line_setLine_self]
  simp only [Line.withDecoder, Line.tested, hr, hp, Part.updLine, Part.line_setLine_self, Part.setLine_setLine]
  rfl

theorem Part.confirmationStage_closed (hp : r.polarity = .closed) : p.confirmationStage l
    = (p.setLine l (p.line l).confirmed).settleClosed l r.duration := by
  rw [Part.confirmationStage, if_pos ht, if_pos hc, Part.confirmRun, Part.setTests_eq, Part.updLine, Part.line_setLine_self,
    Part.setLine_setLine, Part.settleEnded, Part.line_setLine_self]
  simp only [Line.withDecoder, Line.tested, hr, hp, Part.updLine, Part.line_setLine_self, Part.setLine_setLine]
  rfl

end

/-! ### What a settled open run does (R27, R32 to R34) -/

section
variable (p : Part) (l : LineId) (x : Line) (b : Nat)

theorem Part.openRunActive_pulse (hx : x.profile = (p.line l).profile) :
    (p.setLine l x).openRunActive l .pulse b = p.setLine l { x with
      timer := x.classTimer .partialDial (p.profileOfLine l).partialTime
      decoder := { x.decoder with
        pendingBreak := some b, digit := some ((p.profileOfLine l).addPulse x.decoder.digit) } } := by
  simp only [Part.openRunActive, Part.profileOfLine_setLine p l l x hx, Part.updLine, Part.line_setLine_self,
    Part.setLine_setLine, Line.withDecoder]
  rw [Part.startTimer_setLine _ _ _ _ (by exact hx), ← timerLength_partial]
  rfl

theorem Part.openRunActive_invalid (hx : x.profile = (p.line l).profile) :
    (p.setLine l x).openRunActive l .invalid b = p.setLine l { x with
      decoder := { x.decoder with digit := some ((p.profileOfLine l).addInvalid x.decoder.digit) } } := by
  simp only [Part.openRunActive, Part.profileOfLine_setLine p l l x hx, Part.updLine, Part.line_setLine_self,
    Part.setLine_setLine, Line.withDecoder]

theorem Part.openRunActive_flash_idle (hx : x.profile = (p.line l).profile) (hd : x.decoder.digit = none) :
    (p.setLine l x).openRunActive l .flash b = (p.reportBoth (.flash l b .active)).setLine l { x with
      timer := x.classTimer .partialDial (p.profileOfLine l).partialTime } := by
  simp only [Part.openRunActive, Part.breakDigit, Part.line_setLine_self, hd, Part.reportBoth_setLine]
  rw [Part.startTimer_setLine _ _ _ _ (by rw [Part.line_reportBoth]; exact hx), ← timerLength_partial]
  rfl

theorem Part.openRunActive_flash_breaks (hx : x.profile = (p.line l).profile) (g : Digit) (hd : x.decoder.digit = some g) :
    (p.setLine l x).openRunActive l .flash b
      = ((p.reportBoth (.digitError l .broken g.count g.convention)).reportBoth (.flash l b .active)).setLine l { x with
        timer := x.classTimer .partialDial (p.profileOfLine l).partialTime
        decoder := { x.decoder with digit := none, pendingBreak := none } } := by
  simp only [Part.openRunActive, Part.breakDigit, Part.line_setLine_self, hd, Part.dropDigit, Part.updLine,
    Part.setLine_setLine, Part.digitErrorReport, Line.withDecoder, Part.reportBoth_setLine]
  rw [Part.startTimer_setLine _ _ _ _ (by simp only [Part.line_reportBoth]; exact hx), ← timerLength_partial]
  rfl

variable (hs : x.state = (p.line l).state) (htr : x.trace = (p.line l).trace) (v : Verdict)
  (hv : v = openVerdict x.decoder.bmax ((p.setLine l x).flashMin l) b)
include hs htr hv

theorem Part.settleOpen_active (ha : x.state = .active) :
    (p.setLine l x).settleOpen l b = ((p.traceReport l .open b v).setLine l x).openRunActive l v b := by
  rw [Part.settleOpen, Part.line_setLine_self, ← hv]
  simp only [Part.traceReport_setLine p l x .open b v hs htr, Part.line_setLine_self, ha]

theorem Part.settleOpen_converse (ha : x.state = .converse) :
    (p.setLine l x).settleOpen l b = ((p.traceReport l .open b v).setLine l x).openRunConverse l v b := by
  rw [Part.settleOpen, Part.line_setLine_self, ← hv]
  simp only [Part.traceReport_setLine p l x .open b v hs htr, Part.line_setLine_self, ha]

end

theorem Part.openRunConverse_eq (p : Part) (l : LineId) (v : Verdict) (b : Nat) :
    p.openRunConverse l v b = if v = .flash then p.reportBoth (.flash l b .converse) else p := by
  cases v <;> rfl

/-- The flash_min of a line whose run was confirmed is the line's. -/
theorem Part.flashMin_confirmed (p : Part) (l : LineId) :
    (p.setLine l (p.line l).confirmed).flashMin l = p.flashMin l := by
  rw [Part.flashMin, Part.line_setLine_self, Part.profileOfLine_setLine p l l _ (by rfl)]
  rfl

/-- Settles O14: the class of the settled run names what it does. -/
theorem confirmationSettlesAnOpenRunInActive : Obligations.ConfirmationSettlesAnOpenRunInActive := by
  unfold Obligations.ConfirmationSettlesAnOpenRunInActive
  intro s l x d bmin hh hx hd ht hb
  subst hx hd
  have hbmin : (s.part.line l).slicer.cls.bmin = bmin := hb.symm
  rw [exec_runConfirmation s l hh]
  refine ⟨fun hn => ?passes, fun r prof flashMin d' hs hf hp hdur hr hopen hprof hfm hd' => ?settles⟩
  case passes =>
    rw [Part.confirmationStage_passes _ _ ht]
    · rfl
    · rw [Line.confirms_iff, hbmin]
      rintro ⟨h1, h2, h3, h4⟩
      rcases hn with ⟨n1, n2⟩ | n | n | n
      · exact h1.elim n1 n2
      · simp [h2] at n
      · exact n h3
      · omega
  case settles =>
    obtain rfl : d' = (s.part.line l).decoder.confirmed := hd'
    have hc : (s.part.line l).confirms = true :=
      (Line.confirms_iff _).2 ⟨.inl hs, hf, hp, hbmin.symm ▸ hdur⟩
    have hflash : s.part.flashMin l = flashMin := by
      rw [hfm, hprof]
      cases hdig : (s.part.line l).decoder.digit <;> simp only [Part.flashMin, hdig]
    have settled (v : Verdict) (hv : v = openVerdict (s.part.line l).decoder.bmax flashMin r.duration) :=
      (s.part.confirmationStage_open l ht hc r hr hopen).trans
        (s.part.settleOpen_active l (s.part.line l).confirmed r.duration rfl rfl v
          (by rw [Part.flashMin_confirmed, hflash]; exact hv) hs)
    have hline (v : Verdict) : (s.part.traceReport l .open r.duration v).line l = s.part.line l := Part.line_traceReport ..
    have hprofile (v : Verdict) : (s.part.traceReport l .open r.duration v).profileOfLine l = prof := by
      rw [hprof, Part.profileOfLine, hline, Part.profile_traceReport, Part.profileOfLine]
    refine ⟨fun h1 => ?_, fun h1 h2 => ?_, fun h1 h2 => ?_⟩
    · rw [settled .pulse (by rw [openVerdict, if_pos (by exact h1)]),
        Part.openRunActive_pulse _ _ (s.part.line l).confirmed _ (by rw [hline]; rfl),
        hprofile]
      cases hdig : (s.part.line l).decoder.digit <;> simp only [Line.confirmed, Decoder.confirmed, hdig] <;> rfl
    · rw [settled .invalid (by rw [openVerdict, if_neg (by exact not_le.2 h1), if_pos h2]),
        Part.openRunActive_invalid _ _ (s.part.line l).confirmed _ (by rw [hline]; rfl), hprofile]
      cases hdig : (s.part.line l).decoder.digit <;> simp only [Line.confirmed, Decoder.confirmed, hdig] <;> rfl
    · rw [settled .flash (by rw [openVerdict, if_neg (by exact not_le.2 h1), if_neg (not_lt.2 h2)])]
      cases hdig : (s.part.line l).decoder.digit with
      | none =>
        rw [Part.openRunActive_flash_idle _ _ (s.part.line l).confirmed _ (by rw [hline]; rfl) hdig, hprofile]
        rfl
      | some g =>
        rw [Part.openRunActive_flash_breaks _ _ (s.part.line l).confirmed _ (by rw [hline]; rfl) g hdig, hprofile]
        rfl

/-- Settles O15. -/
theorem confirmationInConverseReportsFlashesAlone : Obligations.ConfirmationInConverseReportsFlashesAlone := by
  unfold Obligations.ConfirmationInConverseReportsFlashesAlone
  intro s l x d r v flashMin bmin hh hx hd ht hs hf hp hb hdur hr hopen hfm hv p hpart
  subst hx hd
  have hc : (s.part.line l).confirms = true :=
    (Line.confirms_iff _).2 ⟨.inr hs, hf, hp, by rw [hb] at hdur; exact hdur⟩
  have hflash : s.part.flashMin l = flashMin := by
    rw [hfm]
    cases hdig : (s.part.line l).decoder.digit <;> simp only [Part.flashMin, hdig]
  rw [exec_runConfirmation s l hh, s.part.confirmationStage_open l ht hc r hr hopen,
    s.part.settleOpen_converse l (s.part.line l).confirmed r.duration rfl rfl v
      (by rw [Part.flashMin_confirmed, hflash]; exact hv) hs, Part.openRunConverse_eq, hpart]
  rfl

/-! ### What a settled closed run does (R30, R36, R37) -/

theorem Part.settleClosed_eq (p : Part) (l : LineId) (x : Line) (m : Nat) (hs : x.state = (p.line l).state)
    (htr : x.trace = (p.line l).trace) : (p.setLine l x).settleClosed l m = (p.traceReport l .closed m .make).setLine l
      (if x.state = .active then x.withDecoder (fun d => d.settleMake m) else x) := by
  simp only [Part.settleClosed, Part.traceReport_setLine p l x .closed m .make hs htr, Part.line_setLine_self, Part.updLine,
    Part.setLine_setLine]
  split <;> rfl

theorem Decoder.settleMake_pairs (d : Decoder) (m : Nat) (g : Digit) (b : Nat) (hg : d.digit = some g)
    (hb : d.pendingBreak = some b) : d.settleMake m = { d with
      digit := some (g.addPair (b + m)), pendingBreak := none, pEst := adaptPeriod d.pEst (b + m) } := by
  simp only [Decoder.settleMake, hg, hb]

theorem Decoder.settleMake_alone (d : Decoder) (m : Nat) (h : d.digit = none ∨ d.pendingBreak = none) :
    d.settleMake m = d := by
  unfold Decoder.settleMake
  rcases h with h | h
  · simp only [h]
  · cases d.digit <;> simp only [h]

theorem adaptPeriod_eq (e n : Nat) : adaptPeriod e n
    = if 55 ≤ n ∧ n ≤ 160 then ((e : Int) + (16 * (n : Int) - e).tdiv 4).toNat else e := by
  simp [adaptPeriod]

/-- Settles O16. -/
theorem confirmationPairsAMake : Obligations.ConfirmationPairsAMake := by
  unfold Obligations.ConfirmationPairsAMake
  intro s l x d r d' bmin hh hx hd ht hf hb hp hdur hr hclosed hd'
  subst hx hd
  obtain rfl : d' = (s.part.line l).decoder.confirmed := hd'
  have settled (hs : (s.part.line l).state = .active ∨ (s.part.line l).state = .converse) :=
    (s.part.confirmationStage_closed l ht
      ((Line.confirms_iff _).2 ⟨hs, hf, hp, by rw [hb] at hdur; exact hdur⟩) r hr hclosed).trans
      (s.part.settleClosed_eq l (s.part.line l).confirmed r.duration rfl rfl)
  rw [exec_runConfirmation s l hh]
  refine ⟨fun g b n hs hg hbr hn => ?_, fun h => ?_⟩
  · rw [settled (.inl hs), if_pos (show (s.part.line l).confirmed.state = .active from hs)]
    simp only [Line.withDecoder]
    rw [Decoder.settleMake_pairs (s.part.line l).confirmed.decoder _ g b hg hbr, ← hn, adaptPeriod_eq]
    rfl
  · rcases h with ⟨hs, hn⟩ | hs
    · rw [settled (.inl hs), if_pos (show (s.part.line l).confirmed.state = .active from hs)]
      simp only [Line.withDecoder]
      rw [Decoder.settleMake_alone (s.part.line l).confirmed.decoder _ hn]
      rfl
    · rw [settled (.inr hs), if_neg (show (s.part.line l).confirmed.state ≠ .active by simp [Line.confirmed, hs])]
      rfl

/-! ### The end of a digit (R38 to R40, R77 to R79) -/

section
variable (p : Part) (l : LineId) (g : Digit)

theorem Line.gapDue_iff (x : Line) : x.gapDue = true ↔ x.state = .active ∧ x.decoder.digit.isSome
    ∧ x.slicer.debounced = .closed ∧ x.decoder.run.polarity = .closed ∧ x.decoder.gapLimit ≤ x.decoder.run.duration := by
  simp only [Line.gapDue, Bool.and_eq_true, decide_eq_true_eq, and_assoc]

theorem Part.gapTest_not_due (h : ¬ (p.line l).gapDue = true) : p.gapTest l = p := by
  unfold Part.gapTest
  split
  · next e _ => exact absurd e h
  · rfl

theorem Part.gapTest_due (h : (p.line l).gapDue = true) (hg : (p.line l).decoder.digit = some g) :
    p.gapTest l = (p.traceReport l .closed (p.line l).decoder.run.duration .gap).endDigit l g := by
  simp only [Part.gapTest, h, hg]

section
variable (ht : (p.line l).decoder.tests = .limit) (hc : (p.line l).slicer.debounced = .closed)
include ht hc

theorem Part.gapStage_passes (h : ¬ (p.line l).gapDue = true) : p.gapStage l = p.setTests l .made := by
  have hline : (p.setTests l .made).line l = (p.line l).tested .made := by rw [Part.line_setTests, if_pos rfl]
  rw [Part.gapStage, if_pos ⟨ht, hc⟩, Part.gapTest_not_due _ _ (by rw [hline]; exact h)]

/-- A gap test that fires ends the digit of a part on which, but for the digit, all is as the trace report left it. -/
theorem Part.gapStage_ends (h : (p.line l).gapDue = true) (hg : (p.line l).decoder.digit = some g) :
    ∃ q : Part, p.gapStage l = q.endDigit l g ∧ q.dropDigit l
      = (p.traceReport l .closed (p.line l).decoder.run.duration .gap).setLine l { p.line l with
        decoder := { (p.line l).decoder with digit := none, pendingBreak := none, tests := .made } } := by
  have hline : (p.setTests l .made).line l = (p.line l).tested .made := by rw [Part.line_setTests, if_pos rfl]
  refine ⟨(p.setTests l .made).traceReport l .closed (p.line l).decoder.run.duration .gap, ?_, ?_⟩
  · rw [Part.gapStage, if_pos ⟨ht, hc⟩, Part.gapTest_due _ l g (by rw [hline]; exact h) (by rw [hline]; exact hg), hline]
    rfl
  · rw [Part.setTests_eq, Part.traceReport_setLine _ l ((p.line l).tested .made) _ _ _ rfl rfl, Part.dropDigit,
      Part.updLine, Part.line_setLine_self, Part.setLine_setLine]
    rfl

end

theorem Part.endDigit_error (q : Part) (hq : p.dropDigit l = q) (r : DigitErrorReason) (h : q.judgeDigit g = .inl r) :
    p.endDigit l g = (q.reportBoth (.digitError l r g.count g.convention)).startTimer l .partialDial := by
  simp only [Part.endDigit, hq, h]
  rfl

theorem Part.endDigit_symbol (q : Part) (hq : p.dropDigit l = q) (y : Symbol) (h : q.judgeDigit g = .inr y) :
    p.endDigit l g = ((q.offerDigit l y g.count g.mean g.convention).updLine l (fun z => { z with flaps := 0 })).startTimer l
      .partialDial := by
  simp only [Part.endDigit, hq, h]

/-- The pulse count n + 1 of a digit names the n-th entry of its convention (R138). -/
theorem Part.entry_succ (c : ConventionId) (n : Fin 10) : p.entry c (n.val + 1) = (p.convention c).get n :=
  dif_pos ⟨by omega, by omega⟩

theorem Part.judgeDigit_mutilated (h : g.mutilated = true) : p.judgeDigit g = .inl .mutilated := if_pos h

theorem Part.judgeDigit_overcount (h : g.mutilated = false) (hc : g.count = 11) : p.judgeDigit g = .inl .overcount := by
  rw [Part.judgeDigit, if_neg (by simp [h]), if_pos (by omega)]

theorem Part.judgeDigit_entry (h : g.mutilated = false) (n : Fin 10) (hc : g.count = n.val + 1) (y : Symbol)
    (hy : (p.convention g.convention).get n = some y) : p.judgeDigit g = .inr y := by
  rw [Part.judgeDigit, if_neg (by simp [h]), if_neg (by omega), hc, Part.entry_succ]
  simp only [hy]

theorem Part.judgeDigit_unmapped (h : g.mutilated = false) (n : Fin 10) (hc : g.count = n.val + 1)
    (hy : (p.convention g.convention).get n = none) : p.judgeDigit g = .inl .unmapped := by
  rw [Part.judgeDigit, if_neg (by simp [h]), if_neg (by omega), hc, Part.entry_succ]
  simp only [hy]

end

theorem nextIndex_eq (i : Nat) : nextIndex i = if i < 255 then i + 1 else 1 := by
  unfold nextIndex
  split <;> split <;> omega

section
variable (p : Part) (l : LineId) (y : Symbol) (n : Nat) (mean : Option Nat) (c : ConventionId) (i : Nat)
  (hi : i = nextIndex (p.line l).digitIndex)
include hi

/-- A digit that finds no room is reported, takes its index and is lost (R78, R79). -/
theorem Part.offerDigit_lost (r : LossReason) (hr : p.lossReason (p.line l).queue.length = some r) :
    p.offerDigit l y n mean c = ((p.reportBoth (.digit l y .dialled (some n) mean (some c) i none)).reportBoth
      (.digitLost l r y i (p.line l).queue.length p.free)).setLine l { p.line l with digitIndex := i } := by
  subst hi
  have hloss : ((p.updLine l (fun x => { x with digitIndex := nextIndex (p.line l).digitIndex })).reportBoth
      (.digit l y .dialled (some n) mean (some c) (nextIndex (p.line l).digitIndex) none)).lossReason
        (p.line l).queue.length = some r := hr
  simp only [Part.offerDigit, hloss]
  rfl

/-- A digit that finds room is reported and stored at the tail, and the line is judged (R39, R78). -/
theorem Part.offerDigit_stored (hr : p.lossReason (p.line l).queue.length = none) :
    p.offerDigit l y n mean c = ({ (p.reportBoth (.digit l y .dialled (some n) mean (some c) i none)).setLine l
      { p.line l with
        digitIndex := i
        queue := (p.line l).queue ++ [⟨y, .dialled, some n, mean, i, p.stamp, false⟩] } with
      free := p.free - 1 } : Part).judge l := by
  subst hi
  have hloss : ((p.updLine l (fun x => { x with digitIndex := nextIndex (p.line l).digitIndex })).reportBoth
      (.digit l y .dialled (some n) mean (some c) (nextIndex (p.line l).digitIndex) none)).lossReason
        (p.line l).queue.length = none := hr
  simp only [Part.offerDigit, hloss]
  simp only [Part.enqueue, Part.updLine, Part.reportBoth_setLine, Part.line_setLine_self,
    Part.setLine_setLine]
  rfl

end

theorem Part.lossReason_line (p : Part) (n : Nat) (h : p.globals.lineCap ≤ n) : p.lossReason n = some .line := if_pos h

theorem Part.lossReason_pool (p : Part) (n : Nat) (h : n < p.globals.lineCap) (hf : p.free = 0) :
    p.lossReason n = some .pool := by
  rw [Part.lossReason, if_neg (not_le.2 h), if_pos hf]

theorem Part.lossReason_none (p : Part) (n : Nat) (h : n < p.globals.lineCap) (hf : 0 < p.free) : p.lossReason n = none := by
  rw [Part.lossReason, if_neg (not_le.2 h), if_neg hf.ne']

theorem Part.profileOfLine_reportBoth (p : Part) (l : LineId) (b : ReportBody) :
    (p.reportBoth b).profileOfLine l = p.profileOfLine l := rfl

/-- The PARTIAL timer starts afresh on a line whose class and profile are known. -/
theorem Part.startTimer_partial (p : Part) (l : LineId) (x : Line) (r : Profile)
    (hx : (p.line l).slicer.cls = x.slicer.cls) (hr : p.profileOfLine l = r) :
    p.startTimer l .partialDial = p.updLine l (fun z => { z with timer := x.classTimer .partialDial r.partialTime }) := by
  rw [Part.startTimer_eq, timerLength_partial, hr, Line.classTimer, hx]
  rfl

/-- The judging of a line changes neither its class nor its profile record, so the timer has the length it had before. -/
theorem Part.startTimer_judged (p : Part) (l : LineId) (x : Line) (r : Profile)
    (hx : (p.line l).slicer.cls = x.slicer.cls) (hr : p.profileOfLine l = r) :
    ((p.judge l).updLine l (fun z => { z with flaps := 0 })).startTimer l .partialDial
      = (p.judge l).updLine l (fun z => { z with flaps := 0, timer := x.classTimer .partialDial r.partialTime }) := by
  have hslicer := Line.sameAside_slicer ((p.judge_sameAside l).line l)
  have hprofile := Part.profileOfLine_sameAside (p.judge_sameAside l) l
  rw [Part.startTimer_partial _ l x r (by rw [Part.line_updLine_self, ← hx, ← hslicer])
    (by rw [Part.updLine, Part.profileOfLine_setLine _ _ _ _ (by rfl), hprofile, hr]), Part.updLine_updLine]

/-- Settles O17: the gap test fires, and the digit is an error, is lost, or is stored. -/
theorem gapEndsTheDigit : Obligations.GapEndsTheDigit := by
  unfold Obligations.GapEndsTheDigit
  intro s l x d hh hx hd ht
  subst hx hd
  rw [exec_gap_limit s l hh ht]
  refine ⟨fun ho => ?opened, fun hc hn => ?early, fun g prof p index now hs hg hc hp hdur hprof hnw hpart hindex => ?fires⟩
  case opened => rw [Part.gapStage, if_neg (fun k => by simp [ho] at k)]; rfl
  case early =>
    rw [s.part.gapStage_passes l ht hc]
    · rfl
    · rw [Line.gapDue_iff]
      rintro ⟨h1, h2, -, h4, h5⟩
      rcases hn with n | n | n | n
      · exact n h1
      · exact absurd h2 (by simp [n])
      · exact absurd (n.symm.trans h4) (by decide)
      · exact absurd h5 (not_le.2 n)
  case fires =>
    have hline : p.line l = now := by rw [hpart, Part.line_traceReport, Part.line_setLine_self]
    have htraced : p = (s.part.traceReport l .closed (s.part.line l).decoder.run.duration .gap).setLine l now := by
      rw [hpart, Part.traceReport_setLine _ _ _ _ _ _ (by rw [hnw]) (by rw [hnw])]
    have hprofile : p.profileOfLine l = prof := by
      rw [htraced, Part.profileOfLine_setLine _ _ _ _ (by rw [Part.line_traceReport, hnw]), hprof, Part.profileOfLine,
        Part.line_traceReport, Part.profile_traceReport, Part.profileOfLine]
    have hclass : now.slicer.cls = (s.part.line l).slicer.cls := by rw [hnw]
    obtain ⟨_, hstage, hdrop⟩ := s.part.gapStage_ends l g ht hc
      ((Line.gapDue_iff _).2 ⟨hs, by simp [hg], hc, hp, hdur⟩) hg
    rw [← hnw, ← htraced] at hdrop
    have hconv : p.convention g.convention = s.part.convention g.convention := by
      rw [htraced, Part.convention_setLine, Part.convention_traceReport]
    have hglobals : p.globals = s.part.globals := by rw [htraced, Part.setLine_globals, Part.traceReport_globals]
    have hfree : p.free = s.part.free := by rw [htraced, Part.setLine_free, Part.traceReport_free]
    have hstamp : p.stamp = s.part.stamp := by
      rw [Part.stamp, htraced, Part.setLine_timeBase, Part.traceReport_timeBase, Part.stamp]
    have hqueue : now.queue = (s.part.line l).queue := by rw [hnw]
    have hnext : index = nextIndex (p.line l).digitIndex := by rw [hindex, nextIndex_eq, hline, hnw]
    rw [hstage]
    refine ⟨fun reason hr => ?error, fun n y mean q hm hcount hy hmean hq =>
      ⟨fun reason hr => ?lost, fun hcap hroom => ?stored⟩⟩
    case error =>
      have hj : p.judgeDigit g = .inl reason := by
        rcases hr with ⟨hm, rfl⟩ | ⟨hm, hn, rfl⟩ | ⟨hm, ⟨n, hn, hy⟩, rfl⟩
        · exact p.judgeDigit_mutilated g hm
        · exact p.judgeDigit_overcount g hm hn
        · exact p.judgeDigit_unmapped g hm n hn (by rw [hconv]; exact hy)
      rw [Part.endDigit_error _ l g p hdrop reason hj,
        Part.startTimer_partial (p.reportBoth _) l now prof (by rw [Part.line_reportBoth, hline]) hprofile, Part.updLine,
        Part.line_reportBoth, hline, Line.classTimer, hclass]
      rfl
    all_goals
      have hj : p.judgeDigit g = .inr y := p.judgeDigit_entry g hm n hcount y (by rw [hconv]; exact hy)
      have hqline : q.line l = now := by rw [hq, Part.line_reportBoth, hline]
      have hqprofile : q.profileOfLine l = prof := by rw [hq, Part.profileOfLine_reportBoth, hprofile]
      have hmean' : g.mean = mean := hmean.symm
      rw [Part.endDigit_symbol _ l g p hdrop y hj, hmean']
    case lost =>
      have hloss : p.lossReason (p.line l).queue.length = some reason := by
        rw [hline, hqueue]
        rcases hr with ⟨hn, rfl⟩ | ⟨hn, hf, rfl⟩
        · exact p.lossReason_line _ (by rw [hglobals]; exact hn)
        · exact p.lossReason_pool _ (by rw [hglobals]; exact hn) (by rw [hfree]; exact hf)
      rw [p.offerDigit_lost l y g.count mean g.convention index hnext reason hloss, ← hq, hline, hqueue, hfree, Part.updLine,
        Part.line_setLine_self, Part.setLine_setLine,
        Part.startTimer_partial _ l now prof (by rw [Part.line_setLine_self]) ?_, Part.updLine, Part.line_setLine_self,
        Part.setLine_setLine, Line.classTimer, hclass]
      · subst hnw
        rfl
      · rw [Part.profileOfLine_setLine _ _ _ _ (by rw [Part.line_reportBoth, hqline]), Part.profileOfLine_reportBoth, hqprofile]
    case stored =>
      have hloss : p.lossReason (p.line l).queue.length = none := by
        rw [hline, hqueue]
        exact p.lossReason_none _ (by rw [hglobals]; exact hcap) (by rw [hfree]; exact hroom)
      rw [p.offerDigit_stored l y g.count mean g.convention index hnext hloss, ← hq, hline, hfree, hstamp, hqueue,
        Part.startTimer_judged _ l now prof ?_ ?_]
      · rw [Line.classTimer, hclass]
        rfl
      · exact (congrArg (fun z : Line => z.slicer.cls) (Part.line_setLine_self q l _)).trans rfl
      · exact (Part.profileOfLine_setLine q l l _ (by rw [hqline])).trans hqprofile

end Sys2Proof.Machine
end

section
/-!
PROOF. What waits is taken before the row that comes (assumption logs 4, 6, 36 and 37): what was taken waits no more, so it may
as well have been taken before the row.
-/
set_option Elab.async false

namespace Sys2Proof.Machine

/-! ### The messages that wait -/

theorem Part.lockingTimeout_waiting (p : Part) (lk : LinkId) : (p.lockingTimeout.link lk).waiting = (p.link lk).waiting := by
  unfold Part.lockingTimeout
  split
  · split
    · exact (Part.asQuietAs.reportBoth (Part.asQuietAs_refl _) _).waiting lk
    · rfl
  · rfl

theorem Part.dropWaiting_other (p : Part) (lk : LinkId) : (p.dropWaiting lk.other).link lk = p.link lk := by
  cases lk <;> rfl

/-- Taking what waits on a link leaves what waits on the other. -/
theorem Part.takeWaiting_other (p : Part) (lk : LinkId) :
    ((p.takeWaiting lk.other).link lk).waiting = (p.link lk).waiting := by
  rw [(p.takeWaiting_quiet lk.other).waiting lk, Part.dropWaiting_other]

/-- Where a message waits on one link at most, the order of the links does not matter. -/
theorem Part.takeWaiting_comm (p : Part) (h : p.linkA.waiting = none ∨ p.linkB.waiting = none) :
    (p.takeWaiting .b).takeWaiting .a = (p.takeWaiting .a).takeWaiting .b := by
  rcases h with h | h
  · have hb : ((p.takeWaiting .b).link .a).waiting = none := (p.takeWaiting_other .a).trans h
    rw [p.takeWaiting_none .a h, (p.takeWaiting .b).takeWaiting_none .a hb]
  · have ha : ((p.takeWaiting .a).link .b).waiting = none := (p.takeWaiting_other .b).trans h
    rw [p.takeWaiting_none .b h, (p.takeWaiting .a).takeWaiting_none .b ha]

/-- A command that is not itself the message that waits comes to the part with all that waits taken (assumption log 6). -/
theorem Part.arrive_takes (p : Part) (lk : LinkId) (c : Instr) (hc : (p.link lk).waiting ≠ some (.command c))
    (h : p.linkA.waiting = none ∨ p.linkB.waiting = none) : p.arrive lk c = p.settleUrgent := by
  have hwaiting : ∀ m, (p.settleSamples.lockingTimeout.link m).waiting = (p.link m).waiting := fun m => by
    rw [Part.lockingTimeout_waiting, p.settleSamples_quiet.waiting]
  unfold Part.arrive Part.settleUrgent
  generalize p.settleSamples.lockingTimeout = q at hwaiting ⊢
  have hc' : ((q.takeWaiting lk.other).link lk).waiting ≠ some (.command c) := by
    rwa [Part.takeWaiting_other, hwaiting]
  rw [if_neg hc']
  cases lk
  · exact Part.takeWaiting_comm q (h.imp (hwaiting .a).trans (hwaiting .b).trans)
  · rfl

/-! ### The rows -/

theorem Part.settleUrgent_twice (p : Part) : p.settleUrgent.settleUrgent = p.settleUrgent :=
  p.settleUrgent.settleUrgent_settled p.settleUrgent_settles

section
variable (s : State) (q : Part) (h : s.hold.held = false) (hq : q.settleUrgent = s.part.settleUrgent)
include h hq

/-- A row that begins by taking what waits is the same row with what waits taken first. -/
theorem State.onPart_ahead (f : Part → Part) :
    s.onPart (fun p => f p.settleUrgent) = (s.withPart q).onPart (fun p => f p.settleUrgent) := by
  rw [s.onPart_working _ h, s.onPart_withPart h, hq]
  rfl

/-- A row that takes what waits and nothing else. -/
theorem State.onPart_settleUrgent_ahead : s.onPart Part.settleUrgent = (s.withPart q).onPart Part.settleUrgent := by
  rw [s.onPart_working _ h, s.onPart_withPart h, hq]
  rfl

theorem State.beginHold_ahead (cause : ResetCause) (k : Hold) :
    s.beginHold cause k = (s.withPart q).beginHold cause k := by
  have hhold : (s.withPart q).hold.held = false := h
  have hpart : (s.withPart q).part.settleUrgent = s.part.settleUrgent := hq
  unfold State.beginHold
  rw [hpart, h, hhold]
  rfl

omit h in
theorem State.takeHighwayFrame_ahead (slots : List Half) :
    s.takeHighwayFrame slots = (s.withPart q).takeHighwayFrame slots := by
  have hbefore : (s.withPart q).part.beforeFrame = s.part.beforeFrame := by
    unfold Part.beforeFrame
    rw [show (s.withPart q).part.settleUrgent = s.part.settleUrgent from hq]
  unfold State.takeHighwayFrame
  rw [hbefore]
  rfl

theorem exec_ahead (c : Instr) (hm : commandMessage c = none)
    (htests : ∀ l, c ≠ .runConfirmation l ∧ c ≠ .gap l ∧ c ≠ .clear l) (herror : ∀ lk, c ≠ .receiveError lk)
    (hlocking : c ≠ .lockingTimeout) (hpower : c ≠ .powerOn) : exec c s = exec c (s.withPart q) := by
  have urgent (f : Part → Part) : Host.Outcome.next (s.onPart (fun p => f p.settleUrgent))
      = (Host.Outcome.next ((s.withPart q).onPart (fun p => f p.settleUrgent)) :
          Host.Outcome State Fault Refusal) :=
    congrArg Host.Outcome.next (s.onPart_ahead q h hq f)
  cases c
  case runConfirmation l => exact absurd rfl (htests l).1
  case gap l => exact absurd rfl (htests l).2.1
  case clear l => exact absurd rfl (htests l).2.2
  case receiveError lk => exact absurd rfl (herror lk)
  case lockingTimeout => exact absurd rfl hlocking
  case powerOn => exact absurd rfl hpower
  case oscillatorMillisecond => exact urgent Part.oscillatorMark
  case scanFrame bytes => exact urgent (·.takeScanBytes bytes)
  case classReview => exact urgent Part.classReview
  case restExpiry l => exact urgent (·.restExpiry l)
  case seizeExpiry l => exact urgent (·.seizeExpiry l)
  case firstDigitExpiry l => exact urgent (·.firstDigitExpiry l)
  case partialExpiry l => exact urgent (·.partialExpiry l)
  case settleExpiry l => exact urgent (·.settleExpiry l)
  case highwayFrame slots =>
    refine congrArg Host.Outcome.next ?_
    split
    · exact s.onPart_settleUrgent_ahead q h hq
    · rw [if_neg (by simp [h]), if_neg (by simp [State.withPart, h])]
      exact s.takeHighwayFrame_ahead q hq _
  case shortFrame => exact congrArg Host.Outcome.next (s.onPart_settleUrgent_ahead q h hq)
  case onPhaseEnd k => exact urgent (·.onPhaseEnd k)
  case toneOffEnd k => exact urgent (·.toneOffEnd k)
  case frameWatchdogExpiry => exact urgent Part.watchdogExpiry
  case resetInput => exact congrArg Host.Outcome.next (s.beginHold_ahead q h hq _ _)
  case supplyLow => exact congrArg Host.Outcome.next (s.beginHold_ahead q h hq _ _)
  case partResetEnd a b =>
    refine congrArg Host.Outcome.next ?_
    rw [if_neg (by simp [h]), if_neg (by simp [State.withPart, h])]
    exact s.onPart_settleUrgent_ahead q h hq
  case gapTimerExpiry lk => exact urgent (·.gapTimerExpiry lk)
  case shortBreak lk => exact urgent (fun p => (p.longBreak lk).shortBreak lk)
  case longBreak lk => exact urgent (·.longBreak lk)
  case auditTimerExpiry lk => exact urgent (·.auditExpiry lk)
  case reportTransmissionStart lk ready => exact urgent (·.updLink lk (fun k => k.startSending ready))
  case reportTransmissionComplete lk => exact urgent (·.finishTransmission lk)
  case characterTaken lk v stop n => exact urgent (·.updLink lk (fun k => k.takeCharacter lk v stop n))
  case returnToMarking lk => exact urgent (fun p => (p.longBreak lk).returnToMarking lk)
  all_goals cases hm

end

/-- A command that finds a settled part on its arrival finds it as well where that part stood before. -/
theorem exec_command_ahead (s : State) (q : Part) (c : Instr) (lk : LinkId) (kind : Byte) (body : List Byte)
    (h : s.hold.held = false) (hm : commandMessage c = some (lk, kind, body)) (ha : s.part.arrive lk c = q)
    (hq : q.settled) : exec c s = exec c (s.withPart q) := by
  rw [exec_command c lk kind body s hm, exec_command c lk kind body _ hm, s.onPart_working _ h, s.onPart_withPart h, ha,
    q.arrive_settled hq]
  rfl

/-- Settles O2. -/
theorem waitingConsequencesComeFirst : Obligations.WaitingConsequencesComeFirst := by
  unfold Obligations.WaitingConsequencesComeFirst
  exact ⟨fun p => ⟨p.settleUrgent_settles, p.settleUrgent_settled⟩,
    fun s c h hm => exec_ahead s _ h s.part.settleUrgent_twice c hm,
    fun s c lk kind body h hm hc hw =>
      exec_command_ahead s _ c lk kind body h hm (s.part.arrive_takes lk c hc hw) s.part.settleUrgent_settles⟩

end Sys2Proof.Machine
end
